-- ==== Sys2Proof/Word.lean ====
section
/-! DEFINITION. The words the GN410 manual counts in: bytes on its lines, network time and location keys. -/
namespace Sys2Proof

/-- One byte of a frame. -/
abbrev Byte := BitVec 8

/-- Network time: a 32-bit count of deciseconds since the last reset, which wraps (section 5.2). -/
abbrev Time := BitVec 32

/-- A location key: easting cell in the upper twelve bits, northing cell in the lower twelve (section 5.5). -/
abbrev Key := BitVec 24

/-- The elapsed time between two network times, taken modulo 2^32 (section 5.2). -/
def Time.since (later earlier : Time) : Nat := (later - earlier).toNat

end Sys2Proof
end

