-- ==== Sys2Proof/Syntax.lean ====
section
/-! DEFINITION. The commands the GN410 takes: one constructor for each row of spec/opcode_table.json. -/
namespace Sys2Proof

/-- Which block a report's two deliveries, or the two effects of an entry into LOST, reach first. The manual
gives no order between them (R30, R34), so the command that brings the event about carries it. -/
inductive DeliveryOrder
  | pointsFirst
  | valvesFirst
deriving DecidableEq, Repr

/-- The commands. A request command carries the tag and the body bytes of its frame; a field line command carries
the line and the bytes received; an expiry names the record whose channel expired. -/
inductive Instr
  /-- POWER_ON (R190). Power arrives and the reset is released; the straps are latched, the cause POWER_ON is recorded and every block takes its reset values. -/
  | powerOn (rate : BitVec 2) (site : BitVec 4)
  /-- RESET_PIN (R190). Release of the reset pin alone; the straps are latched, the cause RESET_PIN is recorded and every block takes its reset values. -/
  | resetPin (rate : BitVec 2) (site : BitVec 4)
  /-- TICK (R177). The decisecond tick advances network time by 1, and every running channel with an open gate counts one tick. -/
  | tick
  /-- INCIDENT_DEADLINE_EXPIRY (R119). An incident's deadline channel expires; the escalation stage rises, ESCALATION is posted and the channel goes PERIODIC at the first expiry. -/
  | incidentDeadlineExpiry (slot : Fin 48)
  /-- ORDER_CHANNEL_EXPIRY (R75). An order slot's channel expires in MOVING; the order ends TRAVEL_TIMEOUT or RECALL_UNANSWERED according to its action. -/
  | orderChannelExpiry (slot : Fin 12)
  /-- CONTEXT_CHANNEL_EXPIRY (R147). A context's confirmation channel expires in CLOSED_WAIT; the context enters HOLDING with a suspect list, or CONFIRMED with UNVERIFIED set when the decay set is empty. -/
  | contextChannelExpiry (ctx : Fin 8)
  /-- OUTAGE_CHANNEL_EXPIRY (R168). An outage record's reminder channel expires; the accumulator is brought up to date and OUTAGE_PROGRESS is posted. -/
  | outageChannelExpiry (record : Fin 16)
  /-- CRL_FRAME_RECEIVED (R191). A frame is assembled on the link and judged by its CRC; a good frame joins the request list, and a bad one is discarded and counted as a link error. -/
  | crlFrameReceived (bytes : List Byte)
  /-- CRL_GAP_TIMEOUT (R191). More than 50 ms pass between two bytes of a frame being assembled; the frame is discarded, counted as a link error, and the receiver returns to hunting. -/
  | crlGapTimeout
  /-- STATION_REPORT (R34). A valid STATION REPORT ends a scan transaction; health and statistics are updated, the contents are delivered, and the next transaction is chosen. -/
  | stationReport (line : Fin 4) (bytes : List Byte) (order : DeliveryOrder)
  /-- ORDER_ANSWER (R27). A valid ORDER ANSWER ends an order transaction; the result and the health state are handed to the Valve and Order Unit. -/
  | orderAnswer (line : Fin 4) (bytes : List Byte) (order : DeliveryOrder)
  /-- BAD_REPLY (R24). A received frame is judged bad and ends the transaction; the target is charged with a failure. -/
  | badReply (line : Fin 4) (bytes : List Byte) (order : DeliveryOrder)
  /-- REPLY_TIMEOUT (R23). The reply timeout runs out with no frame judged; the transaction ends with a timeout and the target's health counter rises by 8. -/
  | replyTimeout (line : Fin 4) (order : DeliveryOrder)
  /-- QUIET_WAIT_END (R20). The quiet wait of a pass with no due outstation ends; the pass completes and the next transaction is chosen. -/
  | quietWaitEnd (line : Fin 4)
  /-- TRACE_COMPLETE (R93). A supply trace completes; the fed flags are replaced, fed changes are delivered, and the engine chooses its next job. -/
  | traceComplete
  /-- SEARCH_STEP (R131). The running zone search examines a valve of a working-zone segment, adding it to the boundary or the interior list, appending a segment, or failing. -/
  | searchStep
  /-- SEARCH_ZONE_COMPLETE (R98). The ZONE phase finds the zone complete, and the collateral trace begins with the boundary valves judged blocking. -/
  | searchZoneComplete
  /-- SEARCH_COMPLETE (R97). A search completes; it is requeued if overtaken, otherwise its result is delivered to the Isolation Unit. -/
  | searchComplete
  /-- UNKNOWN_KIND (R193). A request whose kind is not in the catalogue is taken and answered UNKNOWN_KIND. -/
  | unknownKind (kind tag : Byte) (body : List Byte)
  /-- IDENT (R200). Returns the part number, revision, site number, link rate, restart cause, mode and network time. -/
  | ident (tag : Byte) (body : List Byte)
  /-- STATUS (R201). Returns the mode, pending mode, model valid flag, queue figures, hold flag, table counts and link error count. -/
  | status (tag : Byte) (body : List Byte)
  /-- SET_MODE (R194). Asks for a mode; leaving CONFIGURE validates the model, SUPERVISE and OBSERVE swap, and a change to CONFIGURE is made pending or takes effect. -/
  | setMode (tag : Byte) (body : List Byte)
  /-- SET_PARAM (R199). Reads or writes one parameter, with mode checks, range checks and clamps. -/
  | setParam (tag : Byte) (body : List Byte)
  /-- MODEL_CLEAR (R11). In CONFIGURE, clears every loaded flag, restores the line and tier defaults and clears the model valid flag. -/
  | modelClear (tag : Byte) (body : List Byte)
  /-- LOAD_SEGMENT (R3). Writes a segment record in CONFIGURE and clears the model valid flag. -/
  | loadSegment (tag : Byte) (body : List Byte)
  /-- LOAD_VALVE (R4). Writes a valve record in CONFIGURE after side, kind and actuation checks, with clamps. -/
  | loadValve (tag : Byte) (body : List Byte)
  /-- LOAD_POINT (R6). Writes a pressure point record in CONFIGURE after range and threshold-gap checks, with clamps. -/
  | loadPoint (tag : Byte) (body : List Byte)
  /-- LOAD_STATION (R8). Writes an outstation record, with its line and line address, in CONFIGURE. -/
  | loadStation (tag : Byte) (body : List Byte)
  /-- LOAD_LINE (R9). Writes the parameters of one field line in CONFIGURE. -/
  | loadLine (tag : Byte) (body : List Byte)
  /-- LOAD_TIER (R10). Writes the confirmation parameters of one tier in CONFIGURE. -/
  | loadTier (tag : Byte) (body : List Byte)
  /-- READ_SEGMENT (R15). Returns a segment's static fields, derived lists and, outside CONFIGURE, its live fields. -/
  | readSegment (tag : Byte) (body : List Byte)
  /-- READ_VALVE (R15). Returns a valve's static fields and, outside CONFIGURE, its live fields. -/
  | readValve (tag : Byte) (body : List Byte)
  /-- READ_POINT (R16). Returns a point's static fields and, outside CONFIGURE, its live fields. -/
  | readPoint (tag : Byte) (body : List Byte)
  /-- READ_STATION (R16). Returns an outstation's line, address, line parameters, channel maps and live health fields. -/
  | readStation (tag : Byte) (body : List Byte)
  /-- STATION_STATS (R37). Returns an outstation's six statistics counters and half flags, clearing them when the clear flag is set. -/
  | stationStats (tag : Byte) (body : List Byte)
  /-- CALL (R104). Takes a public call after its checks and coalesces it into an incident, routes it to an outage, or opens a new incident. -/
  | call (tag : Byte) (body : List Byte)
  /-- ATTEND (R120). Moves an OPEN incident to ATTENDED and stops its deadline channel. -/
  | attend (tag : Byte) (body : List Byte)
  /-- MADE_SAFE (R121). Moves an OPEN or ATTENDED incident to MADE_SAFE and stops its channel. -/
  | madeSafe (tag : Byte) (body : List Byte)
  /-- CLOSE_INCIDENT (R122). Closes an incident that has no context, frees its slot and posts INCIDENT_CLOSED. -/
  | closeIncident (tag : Byte) (body : List Byte)
  /-- FLOOR (R113). Sets or removes an incident's floor and recomputes its grade. -/
  | floor (tag : Byte) (body : List Byte)
  /-- READ_INCIDENT (R125). Returns every field of an open incident and the state of its channel. -/
  | readIncident (tag : Byte) (body : List Byte)
  /-- PLAN (R135). Takes a free context into SEARCHING with the given seeds and requests a search. -/
  | plan (tag : Byte) (body : List Byte)
  /-- EXECUTE (R139). Moves a PLANNED or BREACHED context to EXECUTING and requests CLOSE orders for its REMOTE boundary entries. -/
  | execute (tag : Byte) (body : List Byte)
  /-- EXTEND (R150). Bars valves and adds seeds for a context, which then searches again. -/
  | extend (tag : Byte) (body : List Byte)
  /-- CONFIRM (R148). Moves a HOLDING context to CONFIRMED with OPERATOR_CONFIRMED set. -/
  | confirm (tag : Byte) (body : List Byte)
  /-- RELEASE (R151). Moves a context to RELEASING, builds the reopen list and routes each entry for reopening. -/
  | release (tag : Byte) (body : List Byte)
  /-- CANCEL (R137). Frees a SEARCHING, PLANNED or FAILED context that has put nothing in the field. -/
  | cancel (tag : Byte) (body : List Byte)
  /-- READ_CONTEXT (R154). Returns every field of a context and the state of its channel. -/
  | readContext (tag : Byte) (body : List Byte)
  /-- ORDER (R68). A host order to OPEN or CLOSE a REMOTE valve is checked and placed in a slot, or ends at once with DONE_ALREADY. -/
  | order (tag : Byte) (body : List Byte)
  /-- RECALL (R69). A host request to recall a valve held under LOCAL authority is checked and placed in a slot. -/
  | recall (tag : Byte) (body : List Byte)
  /-- RELEASE_LOCAL (R69). A host request to hand a REMOTE-authority valve to local control is checked and placed in a slot. -/
  | releaseLocal (tag : Byte) (body : List Byte)
  /-- ABORT (R79). Aborts the order in a slot according to its state, or marks it abort-requested when SENT. -/
  | abort (tag : Byte) (body : List Byte)
  /-- HOLD (R80). Sets the order hold, ends waiting-list entries and WAITING orders, and marks SENT orders abort-requested. -/
  | hold (tag : Byte) (body : List Byte)
  /-- RELEASE_HOLD (R81). Clears the order hold. -/
  | releaseHold (tag : Byte) (body : List Byte)
  /-- VALVE_ENTRY (R63). Enters the position of a MANUAL valve. -/
  | valveEntry (tag : Byte) (body : List Byte)
  /-- INHIBIT (R65). Sets or clears a valve's inhibit flag and optionally clears its travel fault. -/
  | inhibit (tag : Byte) (body : List Byte)
  /-- READ_ORDERS (R86). Returns every slot, the hold flag and a summary of the context waiting list. -/
  | readOrders (tag : Byte) (body : List Byte)
  /-- RELIGHT_DONE (R160). Returns a RESTORING segment to service, updates its outage record and closes the record when it empties. -/
  | relightDone (tag : Byte) (body : List Byte)
  /-- READ_OUTAGE (R172). Returns an outage record, bringing its accumulator up to date when it is ACTIVE. -/
  | readOutage (tag : Byte) (body : List Byte)
  /-- DISCARD_OUTAGE (R171). Frees a CLOSED outage record. -/
  | discardOutage (tag : Byte) (body : List Byte)
  /-- FETCH (R186). Takes up to n notices from the class queues in class order, with OVERFLOW notices first, and returns them with the class figures. -/
  | fetch (tag : Byte) (body : List Byte)
  /-- HELD_IN_RESET (R190). The reset pin is asserted or power is lost; the part is held in reset, sends nothing, releases ATTN, and cuts off any reply being sent and any frame arriving. -/
  | heldInReset
deriving DecidableEq, Repr

end Sys2Proof
end

