-- ==== Sys2Proof/Decode.lean ====
section
/-! DEFINITION. The commands that words spell by the table's bits. -/
namespace Sys2Proof

/-- The command a word spells. No row of spec/opcode_table.json gives bits, so no word spells one (log entry 2). -/
def decodeTableWord (_nbits _w : Nat) : Option Instr := none

end Sys2Proof
end

