-- ==== Sys2Proof/Config.lean ====
section
/-! DEFINITION. The capacities of section 6 of the introduction and the limits the rules name. The part is one
fixed design (IDENT returns part number 410, design revision 1), so they are numbers, not parameters. -/
namespace Sys2Proof.Config

/-- Segments, 0..383 (section 5.4). -/
def segments : Nat := 384
/-- Valves, 0..511. -/
def valves : Nat := 512
/-- Pressure points, 0..255. -/
def points : Nat := 256
/-- Outstations, 0..63. -/
def stations : Nat := 64
/-- Valves adjacent to one segment, and points of one segment (R13). -/
def perSegment : Nat := 8
/-- Channels of each kind on one outstation (R13, R21). -/
def channels : Nat := 8
/-- Open incidents (R101). -/
def incidents : Nat := 48
/-- Calls held by one incident (R104). -/
def callsPerIncident : Nat := 16
/-- Entries of the context waiting list (R83). -/
def waitingList : Nat := 192
/-- Segments of one working zone (R131). -/
def zoneSegments : Nat := 32
/-- Valves of one boundary (R131). -/
def boundaryValves : Nat := 24
/-- Valves EXTEND may bar from one context's searches (R150). -/
def barredValves : Nat := 16
/-- Frames waiting in the request list (R192). -/
def requestList : Nat := 4
/-- Bytes in a frame body of the Control Room Link (R191). -/
def bodyBytes : Nat := 1024
/-- Notices in one FETCH reply (R186). -/
def fetchNotices : Nat := 16
/-- Bytes of the fixed part of a FETCH reply (R186). -/
def fetchFixed : Nat := 44
/-- The longest duration one period of a channel counts, 64 × 65,535 ds (R175). -/
def longestDuration : Nat := 4194240
/-- The greatest pressure, in Pa (section 5.3). -/
def maxPressure : Nat := 1048575
/-- The greatest magnitude of a rate, in Pa/min (section 5.3). -/
def maxRate : Nat := 8388607

/-- First timer channel of the order slots (section 9.1); the incident slots' channels start at 0. -/
def orderChannel : Nat := 48
/-- First timer channel of the isolation contexts. -/
def contextChannel : Nat := 60
/-- First timer channel of the outage records. -/
def outageChannel : Nat := 68

/-- Values IDENT returns (R200). -/
def partNumber : Nat := 410
/-- See `partNumber`. -/
def designRevision : Nat := 1

end Sys2Proof.Config
end

