-- ==== Sys2Proof/Machine/State.lean ====
section
/-! DEFINITION. The state of the GN410, block by block, as plain data; its value after reset; and the two closed
types of stops. -/
namespace Sys2Proof.Machine

/-! ## Stops -/

/-- The faults of a step. The manual describes no machine fault: a bad frame is counted, a full table and a
refused request are answered, and every other command has its effect. So there is none, and no command answers
one. -/
inductive Fault : Type
deriving DecidableEq, Repr

/-- The refusals of a step. -/
inductive Refusal
  /-- Raised by exec's arm of a command that has no meaning yet. Safe: the run stops. -/
  | notModelled (mnemonic : String)
  /-- Raised by UNKNOWN_KIND where the kind byte it carries is a kind of the catalogue (section 11.4): such a frame
  is another row of the table, so the command names no event of the part. Safe: the run stops. -/
  | wrongRow
deriving DecidableEq, Repr

/-! ## Tables -/

/-- A table by index. Its rows are in strictly rising index, and an index with no record has no row
(`Table.wf`, which every table operation keeps). -/
structure Table (α : Type) where
  rows : List (Nat × α)
deriving DecidableEq, Repr

/-- The table with no record. -/
def Table.empty {α : Type} : Table α := ⟨[]⟩

/-! ## Model Store (chapter 1) -/

/-- A pressure tier, in the order the manual lists them (R10). -/
inductive Tier | lp | mp | ip
deriving DecidableEq, Repr

/-- Valve kinds (R4). -/
inductive ValveKind | line | regulator | feed
deriving DecidableEq, Repr

/-- Valve actuations (R5). -/
inductive Actuation | remote | monitored | manual
deriving DecidableEq, Repr

/-- A settled valve position, OPEN or CLOSED: a normal position (R5) or a last settled position (R59). -/
inductive Settled | opened | closed
deriving DecidableEq, Repr

/-- Side A of a valve: SOURCE, or a segment (R4). -/
inductive Side
  | source
  | segment (index : Nat)
deriving DecidableEq, Repr

/-- A segment record (R3). -/
structure SegmentRec where
  tier : Tier
  servicePoints : Nat
  criticalConsumers : Nat
  centroid : Key
deriving DecidableEq, Repr

/-- A valve record (R4, R5). -/
structure ValveRec where
  kind : ValveKind
  sideA : Side
  sideB : Nat
  actuation : Actuation
  station : Option Nat
  channel : Option Nat
  normal : Settled
  travelTime : Nat
  recallTime : Nat
deriving DecidableEq, Repr

/-- A pressure point record (R6, R7). -/
structure PointRec where
  segment : Nat
  station : Nat
  channel : Nat
  fullScale : Nat
  zeroOffset : Int
  filterShift : Nat
  hysteresis : Nat
  persistEnter : Nat
  persistClear : Nat
  fallRate : Nat
  fallCount : Nat
  lowAlarm : Nat
  lowWarn : Nat
  highWarn : Nat
  highAlarm : Nat
deriving DecidableEq, Repr

/-- An outstation record (R8). -/
structure StationRec where
  line : Nat
  address : Nat
deriving DecidableEq, Repr

/-- A line record (R9). -/
structure LineRec where
  replyTimeout : Nat
  staleLimit : Nat
  retryLimit : Nat
  baud : Nat
deriving DecidableEq, Repr

/-- A tier record (R10). -/
structure TierRec where
  confirmDrop : Nat
  ventThreshold : Nat
  confirmTime : Nat
deriving DecidableEq, Repr

/-- The three tier records. -/
structure TierTable where
  lp : TierRec
  mp : TierRec
  ip : TierRec
deriving DecidableEq, Repr

/-- What a successful validation derives (R14): the adjacent-valve list and point list of each loaded segment, and
the two channel maps of each loaded outstation, as (channel, record) pairs in ascending channel. -/
structure Derived where
  adjacent : Table (List Nat)
  segmentPoints : Table (List Nat)
  pointMap : Table (List (Nat × Nat))
  valveMap : Table (List (Nat × Nat))
deriving DecidableEq, Repr

/-- The Model Store. A record is loaded exactly when its table lists it, and the model valid flag is the presence
of the derived lists (R1). -/
structure ModelStore where
  segments : Table SegmentRec
  valves : Table ValveRec
  points : Table PointRec
  stations : Table StationRec
  lines : Vector LineRec 4
  tiers : TierTable
  derived : Option Derived
deriving DecidableEq, Repr

/-! ## Field Line Controllers (chapter 2) -/

/-- Outstation health (R29). -/
inductive Health | healthy | degraded | lost
deriving DecidableEq, Repr

/-- The transaction in flight on a line (R23). -/
inductive Transaction
  | scan (station : Nat)
  | order (station slot : Nat)
deriving DecidableEq, Repr

/-- Controller states (R17, R18, R20, R23). -/
inductive ControllerState
  | stopped
  | idle
  | inTransaction (t : Transaction)
  | quiet
deriving DecidableEq, Repr

/-- One Field Line Controller (section 2.1). -/
structure Controller where
  state : ControllerState
  scanPosition : Option Nat
  cycleCount : Nat
  orderRun : Nat
deriving DecidableEq, Repr

/-- One statistics counter with its half flag (R35, R36). -/
structure Counter where
  value : Nat
  half : Bool
deriving DecidableEq, Repr

/-- The six statistics counters, in the order the manual lists them (R35). -/
inductive StatName | goodReplies | timeouts | badReplies | busyAnswers | rejectAnswers | ordersSent
deriving DecidableEq, Repr

/-- An outstation's statistics (R35). -/
structure Statistics where
  goodReplies : Counter
  timeouts : Counter
  badReplies : Counter
  busyAnswers : Counter
  rejectAnswers : Counter
  ordersSent : Counter
deriving DecidableEq, Repr

/-- What the controllers hold per outstation index, loaded or not (R17). -/
structure StationLive where
  health : Health
  counter : Nat
  goodRun : Nat
  stats : Statistics
deriving DecidableEq, Repr

/-- The four controllers and their outstations. -/
structure FieldLines where
  controllers : Vector Controller 4
  stations : Vector StationLive 64
deriving DecidableEq, Repr

/-! ## Pressure Evaluator (chapter 3) -/

/-- The sub-kinds of FAULT (R41). -/
inductive RangeFault | underRange | overRange
deriving DecidableEq, Repr

/-- Point states (section 3.1). -/
inductive PointState
  | disabled
  | awaiting
  | valid
  | stale
  | fault (sub : RangeFault)
deriving DecidableEq, Repr

/-- Pressure zones (R46). -/
inductive Zone | lowAlarm | lowWarn | normal | highWarn | highAlarm
deriving DecidableEq, Repr

/-- Segment pressure conditions (R54). -/
inductive Condition | noData | low | depressed | normal
deriving DecidableEq, Repr

/-- The live record of a pressure point (section 3.1). The deadline stands with the pending zone. -/
structure PointLive where
  state : PointState
  filtered : Option Nat
  rate : Option Int
  zone : Option Zone
  pendingZone : Option (Zone × Time)
  fallCount : Nat
  fallLatch : Bool
  lastSample : Option Time
deriving DecidableEq, Repr

/-- The Pressure Evaluator: no row in CONFIGURE (R39). -/
structure PressureUnit where
  points : Table PointLive
  conditions : Table Condition
deriving DecidableEq, Repr

/-! ## Result codes (section 11.3) -/

/-- The result codes, in the order of the table of R193. -/
inductive ResultCode
  | ok | accepted | unknownKind | length | range | mode | notFound | full | state | authority | inhibited | link
  | hold | duplicate | model
deriving DecidableEq, Repr

/-! ## Valve and Order Unit (chapter 4) -/

/-- Valve positions (section 4.1). -/
inductive Position | opened | closed | travel | unknown
deriving DecidableEq, Repr

/-- Authorities of a REMOTE valve (R66): REMOTE, LOCAL, RECALL_PENDING. -/
inductive Authority | remote | crew | recallPending
deriving DecidableEq, Repr

/-- The live record of a valve (section 4.1). -/
structure ValveLive where
  position : Position
  settled : Settled
  authority : Option Authority
  limitFault : Bool
  travelFault : Bool
  inhibit : Bool
  slot : Option Nat
deriving DecidableEq, Repr

/-- Order actions (R67): CLOSE, OPEN, RECALL, RELEASE_LOCAL. -/
inductive Action | close | opening | recall | releaseLocal
deriving DecidableEq, Repr

/-- Where a live order stands (R67). -/
inductive OrderStage | waiting | sent | moving
deriving DecidableEq, Repr

/-- Who asked for an order (R67). -/
inductive Origin
  | host
  | context (index : Nat)
deriving DecidableEq, Repr

/-- A live order: the fields of a slot that is not FREE (R67). -/
structure Order where
  stage : OrderStage
  valve : Nat
  action : Action
  priority : Nat
  origin : Origin
  oneShot : Bool
  attempts : Nat
  abortRequested : Bool
  waitingTime : Time
deriving DecidableEq, Repr

/-- The outcomes of an order (section 4.8). REFUSED carries its refusal code. -/
inductive OrderOutcome
  | done | doneAlready | travelTimeout | interruptedLocal | rejectedLocal | rejectedFault | failedBusy | noReply
  | linkLost | recallUnanswered | aborted | abortedLate | abortedMoving | abortedHold | abortedMode
  | refused (code : ResultCode)
deriving DecidableEq, Repr

/-- An entry of the context waiting list (section 4.11). -/
structure WaitEntry where
  context : Nat
  valve : Nat
  action : Action
  joined : Time
deriving DecidableEq, Repr

/-- The Valve and Order Unit. A slot is FREE when it holds no order. -/
structure OrderUnit where
  valves : Table ValveLive
  slots : Vector (Option Order) 12
  hold : Bool
  waiting : List WaitEntry
deriving DecidableEq, Repr

/-! ## Model Engine (chapter 5) -/

/-- How a boundary valve's closure is obtained (R129): NONE_CLOSED, REMOTE, CREW. -/
inductive CloseAction | noneClosed | remote | crew
deriving DecidableEq, Repr

/-- Why a search failed, with its related index (R130, R131). -/
inductive SearchFailure
  | unboundedFeed (valve : Nat)
  | overlap (context : Nat)
  | tooLarge
deriving DecidableEq, Repr

/-- The phase of the running search (R95). The COLLATERAL phase holds the passing valves it judged at its start
(R98). -/
inductive SearchPhase
  | zone
  | collateral (passing : List Nat)
deriving DecidableEq, Repr

/-- The running search: what it read at its start (R95), its working zone, the boundary and interior lists it has
built, the place it has reached (the working-zone segment and the valve of that segment it examines next), its
failure once it has one, and the search rerun flag (R96). -/
structure Search where
  context : Nat
  number : Nat
  remoteOnly : Bool
  barred : List Nat
  zone : List Nat
  boundary : List (Nat × CloseAction)
  interior : List Nat
  segmentAt : Nat
  valveAt : Nat
  failure : Option SearchFailure
  phase : SearchPhase
  rerun : Bool
deriving DecidableEq, Repr

/-- Engine states (section 5.1). A running trace holds the passing valves it judged at its start (R92) and the
trace rerun flag (R88). The two rerun flags are set only while their job runs. -/
inductive EngineState
  | idle
  | tracing (passing : List Nat) (rerun : Bool)
  | searching (search : Search)
deriving DecidableEq, Repr

/-- The Model Engine. -/
structure Engine where
  state : EngineState
  pendingTrace : Bool
  queue : List Nat
  fed : Table Bool
deriving DecidableEq, Repr

/-! ## Incident Table (chapter 6) -/

/-- Call kinds (R104). -/
inductive CallKind | outsideOdour | insideOdour | escape | fireOrBlast | noSupply
deriving DecidableEq, Repr

/-- Grades, most urgent first (R103). -/
inductive Grade | p1 | p2 | p3
deriving DecidableEq, Repr

/-- A call in a call list (section 6.1). -/
structure CallRec where
  reference : BitVec 32
  kind : CallKind
  key : Key
  segment : Option Nat
  taken : Time
deriving DecidableEq, Repr

/-- Incident classes (section 6.1). -/
inductive IncidentClass | leak | supply
deriving DecidableEq, Repr

/-- What opened an incident; TELEMETRY carries the point whose fall opened it (section 6.1). -/
inductive IncidentSource
  | call
  | telemetry (point : Nat)
deriving DecidableEq, Repr

/-- Incident states (section 6.9). -/
inductive IncidentState | opened | attended | madeSafe
deriving DecidableEq, Repr

/-- An open incident, with the slot it occupies (section 6.1). -/
structure Incident where
  slot : Nat
  serial : Nat
  cls : IncidentClass
  source : IncidentSource
  state : IncidentState
  grade : Grade
  floor : Option Grade
  urgent : Bool
  key : Key
  maskWidth : Nat
  segment : Option Nat
  calls : List CallRec
  linked : Option Nat
  context : Option Nat
  stage : Nat
  created : Time
deriving DecidableEq, Repr

/-- The parameters of one grade (R103). -/
structure GradeParams where
  attendTime : Nat
  reminder : Nat
  maskWidth : Nat
deriving DecidableEq, Repr

/-- The parameters of the three grades. -/
structure GradeTable where
  p1 : GradeParams
  p2 : GradeParams
  p3 : GradeParams
deriving DecidableEq, Repr

/-- The Incident Table: the open incidents in creation order (section 6.1), the next-serial counter (R102) and the
grade parameters (R103). -/
structure IncidentTable where
  incidents : List Incident
  nextSerial : Nat
  params : GradeTable
  autoIncident : Bool
  autoPlan : Bool
deriving DecidableEq, Repr

/-! ## Isolation Unit (chapter 7) -/

/-- Context states (section 7.1). -/
inductive ContextState
  | free | searching | planned | failed | executing | closedWait | confirmed | holding | breached | releasing
deriving DecidableEq, Repr

/-- Boundary entry statuses (section 7.1). -/
inductive EntryStatus | openTodo | waitingSlot | ordered | closed | failed
deriving DecidableEq, Repr

/-- A boundary entry (section 7.1). -/
structure BoundaryEntry where
  valve : Nat
  action : CloseAction
  status : EntryStatus
  byContext : Bool
deriving DecidableEq, Repr

/-- A point of the decay set (R145). -/
structure DecayPoint where
  point : Nat
  reference : Nat
  decayed : Bool
deriving DecidableEq, Repr

/-- Routes of a reopen entry (R151). -/
inductive ReopenRoute | remote | crew
deriving DecidableEq, Repr

/-- Reopen entry statuses (section 7.1). -/
inductive ReopenStatus | held | ordered | waitingSlot | crewTodo | failed | opened
deriving DecidableEq, Repr

/-- A reopen entry (section 7.1). -/
structure ReopenEntry where
  valve : Nat
  route : Option ReopenRoute
  status : ReopenStatus
  lastOutcome : Option OrderOutcome
deriving DecidableEq, Repr

/-- The four sums of a plan (R99). -/
structure PlanSums where
  zonePoints : Nat
  zoneCritical : Nat
  collateralPoints : Nat
  collateralCritical : Nat
deriving DecidableEq, Repr

/-- An isolation context (section 7.1). Its zone list is also the membership of R127. -/
structure Context where
  state : ContextState
  searchNumber : Nat
  incident : Nat
  seeds : List Nat
  extensionSeeds : List Nat
  remoteOnly : Bool
  executed : Bool
  automatic : Bool
  barred : List Nat
  zone : List Nat
  boundary : List BoundaryEntry
  interiorClosed : List Nat
  collateral : List Nat
  sums : PlanSums
  revision : Nat
  failure : Option SearchFailure
  decaySet : List DecayPoint
  suspects : List Nat
  unverified : Bool
  operatorConfirmed : Bool
  reopen : List ReopenEntry
deriving DecidableEq, Repr

/-- The Isolation Unit. -/
structure IsolationUnit where
  contexts : Vector Context 8
deriving DecidableEq, Repr

/-! ## Outage Unit (chapter 8) -/

/-- Service states of a segment (section 8.1). -/
inductive ServiceState | inService | depressed | offSupply | restoring
deriving DecidableEq, Repr

/-- Why a segment went off supply (section 8.1). -/
inductive OutageCause | isolation | unfed | lowPressure
deriving DecidableEq, Repr

/-- The service record of a segment (section 8.1). -/
structure Service where
  state : ServiceState
  cause : Option OutageCause
  outage : Option Nat
  fed : Bool
  condition : Condition
  member : Option Nat
deriving DecidableEq, Repr

/-- An entry of an outage record's segment list (R161). -/
structure OutageEntry where
  segment : Nat
  cause : OutageCause
  joined : Time
deriving DecidableEq, Repr

/-- States of an outage record (R161). -/
inductive RecordState | free | active | closed
deriving DecidableEq, Repr

/-- An outage record (R161). -/
structure OutageRecord where
  state : RecordState
  segments : List OutageEntry
  affected : Nat
  relit : Nat
  offCount : Nat
  criticalOff : Nat
  peakOff : Nat
  noGas : Nat
  accumulator : Nat
  lastUpdate : Option Time
  capacityMerged : Bool
  created : Option Time
  closedAt : Option Time
deriving DecidableEq, Repr

/-- The Outage Unit: the service records (none in CONFIGURE), the sixteen outage records, the order in which the
ACTIVE ones became ACTIVE (R161), and the reminder interval (R168). -/
structure OutageUnit where
  services : Table Service
  records : Vector OutageRecord 16
  active : List Nat
  reminder : Nat
deriving DecidableEq, Repr

/-! ## Timer Bank (chapter 9) -/

/-- Channel modes (section 9.1). -/
inductive TimerMode | single | periodic
deriving DecidableEq, Repr

/-- A timer channel (section 9.1). -/
structure Channel where
  running : Bool
  mode : TimerMode
  prescale : Nat
  reload : Nat
  count : Nat
  remainder : Nat
  gateOpen : Bool
deriving DecidableEq, Repr

/-- The Timer Bank: network time, the 84 channels, and the expiries of the last tick that are still to be delivered to
their owners (R177 step 4, R179). -/
structure TimerBank where
  time : Time
  channels : Vector Channel 84
  due : List Nat
deriving DecidableEq, Repr

/-! ## Control Room Link (chapter 11), its plain parts -/

/-- Modes, in the order the manual lists them (section 11.5). -/
inductive Mode | configure | supervise | observe
deriving DecidableEq, Repr

/-- Restart causes (R190). -/
inductive RestartCause | powerOn | resetPin
deriving DecidableEq, Repr

/-- A complete request frame (R191). -/
structure Request where
  kind : Byte
  tag : Byte
  body : List Byte
deriving DecidableEq, Repr

/-! ## Notices (chapter 10) -/

/-- Notice classes (section 10.2). -/
inductive NoticeClass | safety | operations | service
deriving DecidableEq, Repr

/-- Causes of STATION_HEALTH (R32). -/
inductive HealthCause | counter | recovery
deriving DecidableEq, Repr

/-- Causes of POINT_STATE (R51). -/
inductive PointCause | range | age | stationLost | sample
deriving DecidableEq, Repr

/-- Causes of VALVE_STATE (R64). -/
inductive ValveCause | report | entry | stationLost | orderAnswer | travelTimeout | orderDone | host
deriving DecidableEq, Repr

/-- Causes of AUTHORITY_CHANGE (R66, R72, R76). -/
inductive AuthorityCause
  | switchOn | switchOff | recallAnswered | orderEnded | rejectLocal | recallSent | recallUnanswered
deriving DecidableEq, Repr

/-- Causes of INCIDENT_UPGRADED (R111). -/
inductive UpgradeCause | call | floor
deriving DecidableEq, Repr

/-- Reasons of PLAN_FAILED, with their related index (R134, R136). -/
inductive PlanFailure
  | search (failure : SearchFailure)
  | mode
  | seedTaken (context : Nat)
  | noContext
deriving DecidableEq, Repr

/-- Reasons of OUTAGE_DISCARDED (R163, R173). -/
inductive DiscardReason | reused | configure
deriving DecidableEq, Repr

/-- The final figures of an outage record that OUTAGE_CLOSED and OUTAGE_DISCARDED carry (R163, R169). -/
structure OutageFigures where
  affected : Nat
  relit : Nat
  peakOff : Nat
  noGas : Nat
  customerMinutes : Nat
  created : Option Time
  closedAt : Option Time
deriving DecidableEq, Repr

/-- The kinds of notice with their subject and detail, row by row of the table of section 10.6. -/
inductive NoticeBody
  | stationHealth (station line address : Nat) (old new : Health) (counter : Nat) (cause : HealthCause)
  | statsHalf (station : Nat) (counter : StatName)
  | pointState (point segment : Nat) (old new : PointState) (cause : PointCause) (filtered : Option Nat)
      (zone : Option Zone)
  | zoneChange (point segment : Nat) (old new : Zone) (filtered : Nat) (rate : Option Int) (expected : Bool)
  | fall (point segment : Nat) (filtered : Nat) (rate : Int) (count : Nat)
  | valveState (valve : Nat) (old new : Position) (settled : Settled) (limitFault travelFault : Bool)
      (cause : ValveCause)
  | authorityChange (valve : Nat) (old new : Authority) (cause : AuthorityCause)
  | orderOutcome (slot : Option Nat) (valve : Nat) (action : Action) (origin : Origin) (outcome : OrderOutcome)
      (attempts : Nat)
  | incidentOpened (serial : Nat) (cls : IncidentClass) (source : IncidentSource) (grade : Grade) (urgent : Bool)
      (key : Key) (segment linked : Option Nat) (firstCall : Option (BitVec 32))
  | callAttached (serial : Nat) (reference : BitVec 32) (kind : CallKind) (calls : Nat) (grade : Grade)
      (urgent : Bool)
  | incidentUpgraded (serial : Nat) (old new : Grade) (cause : UpgradeCause) (urgent : Bool)
      (remaining : Option Nat)
  | incidentDowngraded (serial : Nat) (old new : Grade)
  | escalation (serial : Nat) (grade : Grade) (state : IncidentState) (stage calls : Nat) (created : Time)
  | incidentClosed (serial : Nat) (cls : IncidentClass) (source : IncidentSource) (state : IncidentState)
      (grade : Grade) (calls stage : Nat) (created : Time)
  | incidentTableFull (point segment : Nat)
  | planReady (context incident revision zoneSize boundarySize crewEntries collateralSize : Nat) (sums : PlanSums)
  | planFailed (context : Option Nat) (incident : Nat) (reason : PlanFailure)
  | isolationState (context incident : Nat) (old new : ContextState) (revision : Nat)
      (suspects : Option (List Nat)) (breached : Option Nat) (flags : Option (Bool × Bool))
  | segmentState (segment : Nat) (old new : ServiceState) (cause : Option OutageCause) (outage : Option Nat)
      (fed : Bool) (condition : Condition) (member : Option Nat) (capacityMerged : Option Bool)
  | outageOpened (record segment : Nat) (cause : OutageCause) (affected criticalOff : Nat)
  | outageMerged (survivor absorbed moved affected offCount criticalOff : Nat)
  | outageProgress (record listed restoring offCount criticalOff relit noGas customerMinutes : Nat)
  | outageClosed (record : Nat) (figures : OutageFigures) (capacityMerged : Bool)
  | outageDiscarded (record : Nat) (reason : DiscardReason) (figures : OutageFigures)
  | modeChanged (old new : Mode)
  | overflow (cls : NoticeClass) (count : Nat) (first last : Time)
deriving DecidableEq, Repr

/-- A notice (section 10.1). -/
structure Notice where
  serial : BitVec 32
  cls : NoticeClass
  time : Time
  body : NoticeBody
deriving DecidableEq, Repr

/-- What is held per class (section 10.2). The overflow flag is set while the drop times are present: the pair
(first, last). -/
structure ClassQueue where
  notices : List Notice
  drops : Option (Time × Time)
  sinceReport : Nat
  generated : BitVec 32
  fetched : BitVec 32
  dropped : BitVec 32
deriving DecidableEq, Repr

/-- One flag per class, true when the class is masked (R185). -/
structure ClassMask where
  safety : Bool
  operations : Bool
  service : Bool
deriving DecidableEq, Repr

/-- The Notice Queues. -/
structure NoticeQueues where
  safety : ClassQueue
  operations : ClassQueue
  service : ClassQueue
  nextSerial : BitVec 32
  classOrder : List NoticeClass
  mask : ClassMask
deriving DecidableEq, Repr

/-! ## Replies (chapter 11 and the owning chapters) -/

/-- Record kinds of a failure report (R13). -/
inductive RecordKind | segment | valve | point | station | none
deriving DecidableEq, Repr

/-- Reasons of a failure report, in the order of the table of R13. -/
inductive ModelFault
  | segAdjacency | segPoints | valveSide | valveTierOrder | valveTierMatch | valveStation | valveChannel
  | valveShared | pointSegment | pointStation | pointChannel | pointShared | stationAddress | noFeed
deriving DecidableEq, Repr

/-- A failure report (R13). -/
structure FailureReport where
  kind : RecordKind
  index : Option Nat
  reason : ModelFault
  related : Option Nat
  count : Option Nat
deriving DecidableEq, Repr

/-- The parameters of SET_PARAM, row by row of the table of section 11.6, with their index. -/
inductive Parameter
  | replyTimeout (line : Nat) | staleLimit (line : Nat) | retryLimit (line : Nat) | baud (line : Nat)
  | confirmDrop (tier : Tier) | ventThreshold (tier : Tier) | confirmTime (tier : Tier)
  | attendTime (grade : Grade) | reminder (grade : Grade) | maskWidth (grade : Grade)
  | autoIncident | autoPlan | classOrder | classMask | outageReminder
deriving DecidableEq, Repr

/-- A value of a parameter. -/
inductive ParamValue
  | number (n : Nat)
  | flag (b : Bool)
  | order (classes : List NoticeClass)
  | mask (m : ClassMask)
deriving DecidableEq, Repr

/-- The live fields READ_SEGMENT adds outside CONFIGURE (R15). -/
structure SegmentStatus where
  fed : Bool
  condition : Condition
  service : ServiceState
  outage : Option Nat
  context : Option Nat
deriving DecidableEq, Repr

/-- The live fields READ_STATION adds outside CONFIGURE (R16); the good run is present while LOST. -/
structure StationStatus where
  health : Health
  counter : Nat
  goodRun : Option Nat
deriving DecidableEq, Repr

/-- The per-class figures of STATUS (R201). -/
structure ClassStatus where
  held : Nat
  dropped : BitVec 32
  overflow : Bool
deriving DecidableEq, Repr

/-- The contents of a STATUS reply (R201). -/
structure StatusReport where
  mode : Mode
  pendingMode : Option Mode
  modelValid : Bool
  cause : RestartCause
  time : Time
  safety : ClassStatus
  operations : ClassStatus
  service : ClassStatus
  hold : Bool
  openIncidents : Nat
  busyContexts : Nat
  activeOutages : Nat
  freeSlots : Nat
  waitingList : Nat
  linkErrors : BitVec 32
deriving DecidableEq, Repr

/-- Where a CALL went (R107, R108, R115). -/
inductive Disposition
  | attached (serial calls : Nat)
  | opened (serial : Nat) (linked : Option Nat)
  | outage (record : Nat)
deriving DecidableEq, Repr

/-- A channel's state as a reply reports it: STOPPED or RUNNING, the mode, prescale and reload it keeps (R174), and the
remaining time, absent when STOPPED (R125, R154, R181). -/
structure ChannelReport where
  running : Bool
  mode : TimerMode
  prescale : Nat
  reload : Nat
  remaining : Option Nat
deriving DecidableEq, Repr

/-- A slot as READ_ORDERS reports it: its order unless FREE, and the remaining time and gate of its channel while
it is in MOVING (R86). -/
structure SlotReport where
  order : Option Order
  channel : Option (Option Nat × Bool)
deriving DecidableEq, Repr

/-- The context waiting list as READ_ORDERS reports it for one context: the number of its entries and the valve of
its oldest (R86). -/
structure WaitReport where
  entries : Nat
  oldest : Option Nat
deriving DecidableEq, Repr

/-- The per-class figures of a FETCH reply (R186). -/
structure FetchFigures where
  held : Nat
  overflow : Bool
  generated : BitVec 32
  fetched : BitVec 32
  dropped : BitVec 32
deriving DecidableEq, Repr

/-- The contents of a reply after its result code. -/
inductive ReplyBody
  /-- The code alone. -/
  | empty
  /-- IDENT (R200). -/
  | ident (part revision : Nat) (site : BitVec 4) (linkRate : Nat) (cause : RestartCause) (mode : Mode) (time : Time)
  /-- STATUS (R201). -/
  | status (report : StatusReport)
  /-- SET_MODE refused with MODEL (R13). -/
  | failure (report : FailureReport)
  /-- SET_PARAM with the write flag clear (R199). -/
  | parameter (name : Parameter) (value : ParamValue)
  /-- READ_SEGMENT (R15). -/
  | segment (record : SegmentRec) (tier : TierRec) (adjacent points : Option (List Nat)) (live : Option SegmentStatus)
  /-- READ_VALVE (R15). -/
  | valve (record : ValveRec) (live : Option ValveLive)
  /-- READ_POINT (R16). -/
  | point (record : PointRec) (live : Option PointLive)
  /-- READ_STATION (R16). -/
  | station (record : StationRec) (line : LineRec) (pointMap valveMap : Option (List (Nat × Nat)))
      (live : Option StationStatus)
  /-- STATION_STATS (R37). -/
  | statistics (stats : Statistics)
  /-- CALL (R107, R108, R115). -/
  | call (disposition : Disposition)
  /-- FLOOR: the grade after the recomputation (R113). -/
  | grade (grade : Grade)
  /-- READ_INCIDENT (R125): the record, and its channel's state as R174 has it reported. -/
  | incident (record : Incident) (channel : ChannelReport)
  /-- PLAN: the context taken (R135). -/
  | context (index : Nat)
  /-- EXECUTE (R139): every boundary entry's valve, action and status after the requests, and the state the event
  leaves. -/
  | executed (entries : List (Nat × CloseAction × EntryStatus)) (state : ContextState)
  /-- RELEASE (R151): the reopen list, and the state the event leaves. -/
  | released (reopen : List ReopenEntry) (state : ContextState)
  /-- READ_CONTEXT (R154): the record, the current f of each decay point, and its channel's state as R174 has it
  reported. -/
  | contextRecord (record : Context) (current : List (Option Nat)) (channel : ChannelReport)
  /-- ORDER, RECALL, RELEASE_LOCAL: the slot taken (R70). -/
  | slot (index : Nat)
  /-- ORDER ended at once with DONE_ALREADY and no slot (R68). -/
  | doneAlready
  /-- INHIBIT: the inhibit flag, limit fault and travel fault as they now stand (R65). Which flags, and in which order,
  is the model's choice (DESIGN CHOICE, log entry 28). -/
  | flags (inhibit limitFault travelFault : Bool)
  /-- READ_ORDERS (R86). -/
  | orders (slots : List SlotReport) (hold : Bool) (waiting : Nat) (contexts : List WaitReport)
  /-- RELIGHT_DONE: the record and its counts after the request (R160). -/
  | relit (record offCount relitCount : Nat)
  /-- READ_OUTAGE (R172): the record, the present service state of each listed segment, the customer-minutes and
  the remaining time of an ACTIVE record's channel. -/
  | outage (record : OutageRecord) (states : List (Option ServiceState)) (customerMinutes : Nat)
      (remaining : Option Nat)
  /-- FETCH (R186): the figures of SAFETY, OPERATIONS and SERVICE, and the notices in the order taken. -/
  | fetch (safety operations service : FetchFigures) (notices : List Notice)
deriving DecidableEq, Repr

/-- A reply (R193): the kind of its request plus 0x80 (unchanged for a kind of 0x80 or above), the same tag, the
result code, and the contents. -/
structure Reply where
  kind : Byte
  tag : Byte
  code : ResultCode
  body : ReplyBody
deriving DecidableEq, Repr

/-- The Control Room Link. The receiver is hunting when it holds no bytes, and assembling otherwise; the bytes are
those after the start byte (R191). The reply is the one to the request last taken. -/
structure Link where
  held : Bool
  rateStraps : BitVec 2
  siteStraps : BitVec 4
  cause : RestartCause
  mode : Mode
  pendingConfigure : Bool
  receiver : Option (List Byte)
  requests : List Request
  linkErrors : BitVec 32
  reply : Option Reply
deriving DecidableEq, Repr

/-! ## The whole part -/

/-- The state of the GN410: the eleven blocks (section 2 of the introduction) and the queue of commands that wait. -/
structure State where
  pending : List Instr
  ms : ModelStore
  flc : FieldLines
  pe : PressureUnit
  vou : OrderUnit
  me : Engine
  it : IncidentTable
  iu : IsolationUnit
  ou : OutageUnit
  tb : TimerBank
  nq : NoticeQueues
  crl : Link
deriving DecidableEq, Repr

/-! ## Values after reset -/

/-- The default line record (R9). -/
def LineRec.default : LineRec := ⟨100, 300, 3, 38400⟩

/-- The default tier records (R10). -/
def TierTable.default : TierTable :=
  { lp := ⟨1000, 500, 3000⟩, mp := ⟨20000, 2000, 3000⟩, ip := ⟨100000, 10000, 3000⟩ }

/-- The empty Model Store (R1). -/
def ModelStore.reset : ModelStore :=
  { segments := .empty, valves := .empty, points := .empty, stations := .empty,
    lines := .replicate 4 .default, tiers := .default, derived := none }

/-- A controller after reset (R17). -/
def Controller.reset : Controller := { state := .stopped, scanPosition := none, cycleCount := 0, orderRun := 0 }

/-- Statistics at zero, half flags clear (R17). -/
def Statistics.zero : Statistics :=
  { goodReplies := ⟨0, false⟩, timeouts := ⟨0, false⟩, badReplies := ⟨0, false⟩,
    busyAnswers := ⟨0, false⟩, rejectAnswers := ⟨0, false⟩, ordersSent := ⟨0, false⟩ }

/-- An outstation index after reset (R17). -/
def StationLive.reset : StationLive := { health := .healthy, counter := 0, goodRun := 0, stats := .zero }

/-- The controllers after reset (R17). -/
def FieldLines.reset : FieldLines :=
  { controllers := .replicate 4 .reset, stations := .replicate 64 .reset }

/-- The Pressure Evaluator after reset and throughout CONFIGURE (R39). -/
def PressureUnit.reset : PressureUnit := { points := .empty, conditions := .empty }

/-- The Valve and Order Unit after reset and throughout CONFIGURE (R59, R67). -/
def OrderUnit.reset : OrderUnit :=
  { valves := .empty, slots := .replicate 12 none, hold := false, waiting := [] }

/-- The Model Engine after reset and throughout CONFIGURE (R87). -/
def Engine.reset : Engine := { state := .idle, pendingTrace := false, queue := [], fed := .empty }

/-- The default grade parameters (R103). -/
def GradeTable.default : GradeTable :=
  { p1 := ⟨36000, 6000, 3⟩, p2 := ⟨72000, 18000, 2⟩, p3 := ⟨432000, 36000, 1⟩ }

/-- The Incident Table after reset (R101, R103). -/
def IncidentTable.reset : IncidentTable :=
  { incidents := [], nextSerial := 1, params := .default, autoIncident := true, autoPlan := false }

/-- The sums of a context with no plan (R126). -/
def PlanSums.zero : PlanSums := ⟨0, 0, 0, 0⟩

/-- A FREE context with the given search number (R126, R128). -/
def Context.freeWith (searchNumber : Nat) : Context :=
  { state := .free, searchNumber := searchNumber, incident := 0, seeds := [], extensionSeeds := [],
    remoteOnly := false, executed := false, automatic := false, barred := [], zone := [], boundary := [],
    interiorClosed := [], collateral := [], sums := .zero, revision := 0, failure := none, decaySet := [],
    suspects := [], unverified := false, operatorConfirmed := false, reopen := [] }

/-- The Isolation Unit after reset (R126). -/
def IsolationUnit.reset : IsolationUnit := { contexts := .replicate 8 (.freeWith 0) }

/-- A FREE outage record (R161). -/
def OutageRecord.free : OutageRecord :=
  { state := .free, segments := [], affected := 0, relit := 0, offCount := 0, criticalOff := 0, peakOff := 0,
    noGas := 0, accumulator := 0, lastUpdate := none, capacityMerged := false, created := none, closedAt := none }

/-- The Outage Unit after reset (R155, R161, R168). -/
def OutageUnit.reset : OutageUnit :=
  { services := .empty, records := .replicate 16 .free, active := [], reminder := 18000 }

/-- A channel after reset (R174). -/
def Channel.reset : Channel :=
  { running := false, mode := .single, prescale := 1, reload := 1, count := 0, remainder := 0, gateOpen := true }

/-- The Timer Bank after reset (R174, R177). -/
def TimerBank.reset : TimerBank := { time := 0, channels := .replicate 84 .reset, due := [] }

/-- A class queue after reset (R189). -/
def ClassQueue.reset : ClassQueue :=
  { notices := [], drops := none, sinceReport := 0, generated := 0, fetched := 0, dropped := 0 }

/-- The Notice Queues after reset (R189). -/
def NoticeQueues.reset : NoticeQueues :=
  { safety := .reset, operations := .reset, service := .reset, nextSerial := 1,
    classOrder := [.safety, .operations, .service], mask := ⟨false, false, false⟩ }

/-- The Control Room Link after a reset release that latched the given straps (R190, R194). -/
def Link.after (cause : RestartCause) (rate : BitVec 2) (site : BitVec 4) : Link :=
  { held := false, rateStraps := rate, siteStraps := site, cause := cause, mode := .configure,
    pendingConfigure := false, receiver := none, requests := [], linkErrors := 0, reply := none }

/-- The part right after a reset release with the given straps and cause, with `pending` as the waiting commands:
every block takes its reset values (R190). -/
def State.afterReset (cause : RestartCause) (rate : BitVec 2) (site : BitVec 4) (pending : List Instr) : State :=
  { pending := pending, ms := .reset, flc := .reset, pe := .reset, vou := .reset, me := .reset, it := .reset,
    iu := .reset, ou := .reset, tb := .reset, nq := .reset, crl := .after cause rate site }

/-- The machine right after power-on, every strap pin low. DESIGN CHOICE (log entry 1, unsafe): the straps are an
input pin's value, which the manual leaves to the board. -/
def State.reset : State := State.afterReset .powerOn 0 0 []

end Sys2Proof.Machine
end

