-- ==== Sys2Proof/Machine/Ops.lean ====
section
/-! DEFINITION. The named operations the blocks share: reading and writing tables, the state's blocks and records,
posting a notice, and the commands of the Timer Bank. -/
namespace Sys2Proof.Machine

/-! ## Tables -/

/-- The record at an index, if a row lists it. -/
def rowGet {α : Type} : List (Nat × α) → Nat → Option α
  | [], _ => none
  | (k, a) :: rest, i => if k = i then some a else rowGet rest i

/-- The rows with the record of one index written, in rising index. -/
def rowSet {α : Type} : List (Nat × α) → Nat → α → List (Nat × α)
  | [], i, a => [(i, a)]
  | (k, b) :: rest, i, a =>
    if i < k then (i, a) :: (k, b) :: rest
    else if i = k then (i, a) :: rest
    else (k, b) :: rowSet rest i a

/-- Read one record. -/
def Table.get {α : Type} (t : Table α) (i : Nat) : Option α := rowGet t.rows i

/-- Write one record. -/
def Table.set {α : Type} (t : Table α) (i : Nat) (a : α) : Table α := ⟨rowSet t.rows i a⟩

/-- Change one record, if it is there. -/
def Table.modify {α : Type} (t : Table α) (i : Nat) (f : α → α) : Table α :=
  match t.get i with
  | none => t
  | some a => t.set i (f a)

/-- Make a table with the same indexes. -/
def Table.mapRows {α β : Type} (t : Table α) (f : Nat → α → β) : Table β := ⟨t.rows.map fun r => (r.1, f r.1 r.2)⟩

/-- The indexes of the records, rising. -/
def Table.indexes {α : Type} (t : Table α) : List Nat := t.rows.map (·.1)

/-- The canonical form of a table: strictly rising indexes, all below `bound`. -/
def Table.wf {α : Type} (t : Table α) (bound : Nat) : Prop :=
  t.rows.Pairwise (fun a b => a.1 < b.1) ∧ ∀ r ∈ t.rows, r.1 < bound

/-- Put a number into a rising list, once. -/
def insertRising : List Nat → Nat → List Nat
  | [], i => [i]
  | k :: rest, i => if i < k then i :: k :: rest else if i = k then k :: rest else k :: insertRising rest i

/-- The numbers of a list, rising, no number twice. -/
def rising (l : List Nat) : List Nat := l.foldl insertRising []

/-- Append an element unless the list holds it. -/
def appendNew (l : List Nat) (i : Nat) : List Nat := if i ∈ l then l else l ++ [i]

/-- Bring a number to the nearest value of a range (section 5.7). -/
def clamp (low high n : Nat) : Nat := max low (min high n)

/-- Bring an integer to the nearest value of a range. -/
def clampInt (low high n : Int) : Int := max low (min high n)

/-- What a request leads to (R193): the state after it, its result code, and the contents of its reply. -/
abbrev Answered : Type := State × ResultCode × ReplyBody

/-- A refused request changes nothing, and its reply carries the code alone (section 5.7). -/
def refuse (s : State) (code : ResultCode) : Answered := (s, code, .empty)

/-- A flag byte: 0 is clear and 1 is set. Another byte is outside the range (DEDUCED, log entry 10). -/
def flagOf : Nat → Option Bool
  | 0 => some false
  | 1 => some true
  | _ => none

/-! ## Writing a block of the state -/

/-- Write the Model Store. -/
def State.withMs (s : State) (x : ModelStore) : State := { s with ms := x }
/-- Write the Field Line Controllers. -/
def State.withFlc (s : State) (x : FieldLines) : State := { s with flc := x }
/-- Write the Pressure Evaluator. -/
def State.withPe (s : State) (x : PressureUnit) : State := { s with pe := x }
/-- Write the Valve and Order Unit. -/
def State.withVou (s : State) (x : OrderUnit) : State := { s with vou := x }
/-- Write the Model Engine. -/
def State.withMe (s : State) (x : Engine) : State := { s with me := x }
/-- Write the Incident Table. -/
def State.withIt (s : State) (x : IncidentTable) : State := { s with it := x }
/-- Write the Isolation Unit. -/
def State.withIu (s : State) (x : IsolationUnit) : State := { s with iu := x }
/-- Write the Outage Unit. -/
def State.withOu (s : State) (x : OutageUnit) : State := { s with ou := x }
/-- Write the Timer Bank. -/
def State.withTb (s : State) (x : TimerBank) : State := { s with tb := x }
/-- Write the Notice Queues. -/
def State.withNq (s : State) (x : NoticeQueues) : State := { s with nq := x }
/-- Write the Control Room Link. -/
def State.withCrl (s : State) (x : Link) : State := { s with crl := x }
/-- Write the queue of waiting commands. -/
def State.withPending (s : State) (x : List Instr) : State := { s with pending := x }

/-! ## Reading the state -/

/-- Network time now. -/
def State.now (s : State) : Time := s.tb.time

/-- The mode. -/
def State.mode (s : State) : Mode := s.crl.mode

/-- A change to CONFIGURE is pending (section 11.5). -/
def State.pendingChange (s : State) : Bool := s.crl.pendingConfigure

/-- The mode is CONFIGURE. The pending flag is then clear (R198). -/
def State.inConfigure (s : State) : Bool := s.crl.mode == .configure

/-- The mode is SUPERVISE or OBSERVE and no change to CONFIGURE is pending: the modes S and O of the catalogue
(section 11.4). -/
def State.inService (s : State) : Bool := s.crl.mode != .configure && !s.crl.pendingConfigure

/-- The mode is SUPERVISE and no change to CONFIGURE is pending: the mode S of the catalogue. -/
def State.inSupervise (s : State) : Bool := s.crl.mode == .supervise && !s.crl.pendingConfigure

/-- The adjacent-valve list of a segment (R14); empty while it is absent. -/
def ModelStore.adjacentOf (m : ModelStore) (seg : Nat) : List Nat :=
  match m.derived with
  | none => []
  | some d => (d.adjacent.get seg).getD []

/-- The point list of a segment (R14); empty while it is absent. -/
def ModelStore.pointsOf (m : ModelStore) (seg : Nat) : List Nat :=
  match m.derived with
  | none => []
  | some d => (d.segmentPoints.get seg).getD []

/-- The point channel map of an outstation (R14); empty while it is absent. -/
def ModelStore.pointMapOf (m : ModelStore) (st : Nat) : List (Nat × Nat) :=
  match m.derived with
  | none => []
  | some d => (d.pointMap.get st).getD []

/-- The valve channel map of an outstation (R14); empty while it is absent. -/
def ModelStore.valveMapOf (m : ModelStore) (st : Nat) : List (Nat × Nat) :=
  match m.derived with
  | none => []
  | some d => (d.valveMap.get st).getD []

/-- The record of a tier (R10). -/
def TierTable.of (t : TierTable) : Tier → TierRec
  | .lp => t.lp
  | .mp => t.mp
  | .ip => t.ip

/-- Write the record of a tier. -/
def TierTable.put (t : TierTable) (r : TierRec) : Tier → TierTable
  | .lp => { t with lp := r }
  | .mp => { t with mp := r }
  | .ip => { t with ip := r }

/-- The record of a line (R9). -/
def ModelStore.lineOf (m : ModelStore) (line : Nat) : LineRec := m.lines.getD line .default

/-- The parameters of a grade (R103). -/
def GradeTable.of (t : GradeTable) : Grade → GradeParams
  | .p1 => t.p1
  | .p2 => t.p2
  | .p3 => t.p3

/-- Write the parameters of a grade. -/
def GradeTable.put (t : GradeTable) (p : GradeParams) : Grade → GradeTable
  | .p1 => { t with p1 := p }
  | .p2 => { t with p2 := p }
  | .p3 => { t with p3 := p }

/-- The tier record of a segment's tier; the LP record where the segment is not loaded, which no rule reads. -/
def State.tierOfSegment (s : State) (seg : Nat) : TierRec :=
  match s.ms.segments.get seg with
  | none => s.ms.tiers.lp
  | some r => s.ms.tiers.of r.tier

/-- What the controllers hold for an outstation index (R17). -/
def State.station (s : State) (st : Nat) : StationLive := s.flc.stations.getD st .reset

/-- Write what the controllers hold for an outstation index. -/
def State.setStation (s : State) (st : Nat) (x : StationLive) : State :=
  s.withFlc { s.flc with stations := s.flc.stations.setIfInBounds st x }

/-- A line's controller. -/
def State.controller (s : State) (line : Nat) : Controller := s.flc.controllers.getD line .reset

/-- Write a line's controller. -/
def State.setController (s : State) (line : Nat) (x : Controller) : State :=
  s.withFlc { s.flc with controllers := s.flc.controllers.setIfInBounds line x }

/-- The order in a slot, none while it is FREE. -/
def State.slot (s : State) (k : Nat) : Option Order := s.vou.slots.getD k none

/-- Write a slot. -/
def State.setSlot (s : State) (k : Nat) (o : Option Order) : State :=
  s.withVou { s.vou with slots := s.vou.slots.setIfInBounds k o }

/-- Write a valve's live record. -/
def State.setValve (s : State) (v : Nat) (x : ValveLive) : State :=
  s.withVou { s.vou with valves := s.vou.valves.set v x }

/-- Write the order slot field of a valve; no valve change (R64). -/
def State.setValveSlot (s : State) (v : Nat) (k : Option Nat) : State :=
  s.withVou { s.vou with valves := s.vou.valves.modify v fun x => { x with slot := k } }

/-- Write the context waiting list. -/
def State.setWaiting (s : State) (l : List WaitEntry) : State := s.withVou { s.vou with waiting := l }

/-- The lowest-indexed FREE slot (R70). -/
def State.freeSlot (s : State) : Option Nat := (List.range 12).find? fun k => (s.slot k).isNone

/-- An isolation context. -/
def State.context (s : State) (c : Nat) : Context := s.iu.contexts.getD c (.freeWith 0)

/-- Write an isolation context. -/
def State.setContext (s : State) (c : Nat) (x : Context) : State :=
  s.withIu { s.iu with contexts := s.iu.contexts.setIfInBounds c x }

/-- Change an isolation context. -/
def State.modContext (s : State) (c : Nat) (f : Context → Context) : State := s.setContext c (f (s.context c))

/-- The context whose zone holds a segment (R127): the lowest-indexed one that lists it. -/
def State.memberOf (s : State) (seg : Nat) : Option Nat :=
  (List.range 8).find? fun c => (s.context c).zone.contains seg

/-- An outage record. -/
def State.outage (s : State) (n : Nat) : OutageRecord := s.ou.records.getD n .free

/-- Write an outage record. -/
def State.setOutage (s : State) (n : Nat) (x : OutageRecord) : State :=
  s.withOu { s.ou with records := s.ou.records.setIfInBounds n x }

/-- Write a segment's service record. -/
def State.setService (s : State) (seg : Nat) (x : Service) : State :=
  s.withOu { s.ou with services := s.ou.services.set seg x }

/-- The open incident with a serial (R124). -/
def State.incident (s : State) (serial : Nat) : Option Incident :=
  s.it.incidents.find? fun i => i.serial == serial

/-- Write an open incident in its place; its serial is its name. -/
def State.setIncident (s : State) (x : Incident) : State :=
  s.withIt { s.it with incidents := s.it.incidents.map fun i => if i.serial = x.serial then x else i }

/-- Set or clear the context field of an open incident (R124). -/
def State.linkIncident (s : State) (serial : Nat) (c : Option Nat) : State :=
  match s.incident serial with
  | none => s
  | some i => s.setIncident { i with context := c }

/-! ## Notices (R182, R183) -/

/-- The capacity of a class queue (section 10.2). -/
def NoticeClass.capacity : NoticeClass → Nat
  | .safety => 64
  | .operations => 64
  | .service => 32

/-- The queue of a class. -/
def NoticeQueues.queue (q : NoticeQueues) : NoticeClass → ClassQueue
  | .safety => q.safety
  | .operations => q.operations
  | .service => q.service

/-- Write the queue of a class. -/
def NoticeQueues.setQueue (q : NoticeQueues) (x : ClassQueue) : NoticeClass → NoticeQueues
  | .safety => { q with safety := x }
  | .operations => { q with operations := x }
  | .service => { q with service := x }

/-- A notice joins the end of its class queue if there is room, and is dropped and counted otherwise (R183). Each
posting counts as generated (R184). -/
def ClassQueue.accept (q : ClassQueue) (capacity : Nat) (n : Notice) : ClassQueue :=
  if q.notices.length < capacity then
    { q with notices := q.notices ++ [n], generated := q.generated + 1 }
  else
    { q with
      generated := q.generated + 1
      dropped := q.dropped + 1
      sinceReport := min (q.sinceReport + 1) 4294967295
      drops := match q.drops with
        | none => some (n.time, n.time)
        | some d => some (d.1, n.time) }

/-- The serial after a serial: it wraps from 4,294,967,295 to 1 (R182). -/
def serialAfter (n : BitVec 32) : BitVec 32 := if n = 4294967295 then 1 else n + 1

/-- Take one posting: the notice gets the next serial whether it is then queued or dropped (R182). -/
def NoticeQueues.post (q : NoticeQueues) (cls : NoticeClass) (time : Time) (body : NoticeBody) : NoticeQueues :=
  let q' := q.setQueue ((q.queue cls).accept cls.capacity ⟨q.nextSerial, cls, time, body⟩) cls
  { q' with nextSerial := serialAfter q.nextSerial }

/-- Post a notice with the network time of the event (R182). -/
def State.post (s : State) (cls : NoticeClass) (body : NoticeBody) : State := s.withNq (s.nq.post cls s.now body)

/-! ## Timer Bank commands (R175 to R181) -/

/-- A duration clamped into 1..4,194,240 (R175). -/
def clampDuration (d : Nat) : Nat := clamp 1 Config.longestDuration d

/-- The prescale of a duration: ceil(D / 65,535) (R175). -/
def prescaleOf (d : Nat) : Nat := (clampDuration d + 65534) / 65535

/-- The reload of a duration: ceil(D / p) (R175). -/
def reloadOf (d : Nat) : Nat := (clampDuration d + prescaleOf d - 1) / prescaleOf d

/-- The actual duration a given duration runs: p × reload (R175). -/
def actualDuration (d : Nat) : Nat := prescaleOf d * reloadOf d

/-- A channel loaded with a duration (R176). -/
def Channel.loaded (d : Nat) (mode : TimerMode) (gateOpen : Bool) : Channel :=
  { running := true, mode := mode, prescale := prescaleOf d, reload := reloadOf d, count := reloadOf d,
    remainder := prescaleOf d, gateOpen := gateOpen }

/-- A stop command (R178): mode, prescale and reload keep their values; a stopped channel is unchanged. -/
def Channel.stop (c : Channel) : Channel :=
  if c.running then { c with running := false, count := 0, remainder := 0, gateOpen := true } else c

/-- A gate command (R180): it changes nothing on a STOPPED channel. -/
def Channel.gate (c : Channel) (gateOpen : Bool) : Channel := if c.running then { c with gateOpen := gateOpen } else c

/-- The remaining time of a channel (R181), absent when it is STOPPED. -/
def Channel.remaining (c : Channel) : Option Nat :=
  if c.running then some ((c.count - 1) * c.prescale + c.remainder) else none

/-- A channel's state with what R174 has reported with it. -/
def Channel.report (c : Channel) : ChannelReport :=
  { running := c.running, mode := c.mode, prescale := c.prescale, reload := c.reload, remaining := c.remaining }

/-- One tick of a channel (R177 steps 1 to 3), with whether it expires. -/
def Channel.tick (c : Channel) : Channel × Bool :=
  if c.running && c.gateOpen then
    if c.remainder - 1 = 0 then
      if c.count - 1 = 0 then
        match c.mode with
        | .single => ({ c with running := false, count := 0, remainder := 0, gateOpen := true }, true)
        | .periodic => ({ c with count := c.reload, remainder := c.prescale }, true)
      else ({ c with count := c.count - 1, remainder := c.prescale }, false)
    else ({ c with remainder := c.remainder - 1 }, false)
  else (c, false)

/-- A channel of the bank. -/
def State.channel (s : State) (n : Nat) : Channel := s.tb.channels.getD n .reset

/-- Write a channel. An expiry that its last tick delivers stands (R179): a command takes nothing off `due`. -/
def TimerBank.command (b : TimerBank) (n : Nat) (c : Channel) : TimerBank :=
  { b with channels := b.channels.setIfInBounds n c }

/-- A retriggerable start command (R176): the channel is loaded in either state. -/
def State.startChannel (s : State) (n d : Nat) (mode : TimerMode) (gateOpen : Bool) : State :=
  s.withTb (s.tb.command n (.loaded d mode gateOpen))

/-- What the bank answers to the owner of a non-retriggerable start (R176). -/
inductive StartAnswer | loaded | ignored
deriving DecidableEq, Repr

/-- A non-retriggerable start command (R176): a RUNNING channel counts on unchanged, and the owner is answered
IGNORED. -/
def State.startChannelOnce (s : State) (n d : Nat) (mode : TimerMode) (gateOpen : Bool) : State × StartAnswer :=
  if (s.channel n).running then (s, .ignored) else (s.startChannel n d mode gateOpen, .loaded)

/-- A stop command to the bank (R178). -/
def State.stopChannel (s : State) (n : Nat) : State := s.withTb (s.tb.command n (s.channel n).stop)

/-- A gate command to the bank (R180). -/
def State.gateChannel (s : State) (n : Nat) (gateOpen : Bool) : State :=
  s.withTb (s.tb.command n ((s.channel n).gate gateOpen))

end Sys2Proof.Machine
end

