-- ==== Sys2Proof/Machine/Flags.lean ====
section
/-! DEFINITION. The flags and lines of the part that a rule defines from other state: ATTN, the overflow flags, the
model valid flag, and the tests the mode change uses. -/
namespace Sys2Proof.Machine

/-- The overflow flag of a class: set while drops of the class have not been reported (section 10.2, R183). -/
def ClassQueue.overflow (q : ClassQueue) : Bool := q.drops.isSome

/-- The class holds a notice or has its overflow flag set (R188). -/
def ClassQueue.calls (q : ClassQueue) : Bool := !q.notices.isEmpty || q.overflow

/-- The mask flag of a class (R185). -/
def ClassMask.of (m : ClassMask) : NoticeClass → Bool
  | .safety => m.safety
  | .operations => m.operations
  | .service => m.service

/-- ATTN as the queues, flags and mask give it (R188). -/
def NoticeQueues.attn (q : NoticeQueues) : Bool :=
  (!q.mask.safety && q.safety.calls) || (!q.mask.operations && q.operations.calls)
    || (!q.mask.service && q.service.calls)

/-- ATTN is asserted, driven low (R188); it is released while the part is held in reset (R190). -/
def State.attn (s : State) : Bool := !s.crl.held && s.nq.attn

/-- The model valid flag (R1): set exactly while the derived lists are present. -/
def ModelStore.valid (m : ModelStore) : Bool := m.derived.isSome

/-- A slot is in SENT or MOVING (R197, R198). -/
def State.busySlot (s : State) (k : Nat) : Bool :=
  match s.slot k with
  | none => false
  | some o => o.stage != .waiting

/-- Some slot is SENT or MOVING. -/
def State.ordersBusy (s : State) : Bool := (List.range 12).any s.busySlot

/-- The link rate the rate straps give, in baud (section 11.1). The first pin is the low bit. -/
def linkRate (straps : BitVec 2) : Nat :=
  match straps.toNat with
  | 0 => 115200
  | 1 => 230400
  | 2 => 460800
  | _ => 921600

/-- The customer-minutes of a record, floor(accumulator / 600), reported at 4,294,967,295 at most (R167). -/
def OutageRecord.customerMinutes (r : OutageRecord) : Nat := min (r.accumulator / 600) 4294967295

/-- The final figures of a record (R163, R169). -/
def OutageRecord.figures (r : OutageRecord) : OutageFigures :=
  { affected := r.affected, relit := r.relit, peakOff := r.peakOff, noGas := r.noGas,
    customerMinutes := r.customerMinutes, created := r.created, closedAt := r.closedAt }

/-- A point in VALID is a valid point (section 3.1). -/
def PointLive.isValid (p : PointLive) : Bool := p.state == .valid

end Sys2Proof.Machine
end

