-- ==== Sys2Proof/Machine/ContextOrders.lean ====
section
/-! DEFINITION. Taking an order slot, and the context order requests of the Valve and Order Unit (sections 4.5 and
4.11). -/
namespace Sys2Proof.Machine

/-- The position an OPEN or CLOSE order drives a valve to; RECALL and RELEASE_LOCAL have none. -/
def Action.target : Action → Option Position
  | .close => some .closed
  | .opening => some .opened
  | .recall => none
  | .releaseLocal => none

/-- The valve's position is the target of an action. TRAVEL and UNKNOWN are never the target (R68). -/
def Action.reached (a : Action) (p : Position) : Bool := a.target == some p

/-- The outstation of a valve is LOST. -/
def State.stationLost (s : State) (rec : ValveRec) : Bool :=
  match rec.station with
  | none => false
  | some st => (s.station st).health == .lost

/-- The context waiting list holds an entry for a valve. -/
def State.waits (s : State) (v : Nat) : Bool := s.vou.waiting.any fun e => e.valve == v

/-- An order takes a FREE slot: the slot enters WAITING and the valve's order slot field is set (R70, R83). -/
def State.takeSlot (s : State) (k v : Nat) (action : Action) (priority : Nat) (origin : Origin) (oneShot : Bool) :
    State :=
  (s.setSlot k (some
    { stage := .waiting, valve := v, action := action, priority := priority, origin := origin, oneShot := oneShot,
      attempts := 0, abortRequested := false, waitingTime := s.now })).setValveSlot v (some k)

/-- The live order of a valve, found through its order slot field (R67). -/
def State.liveOrder (s : State) (v : Nat) : Option Order :=
  (s.vou.valves.get v).bind fun x => x.slot.bind s.slot

/-- A live order of a valve whose origin is the given context. -/
def State.contextOrder (s : State) (c v : Nat) : Option Order :=
  (s.liveOrder v).filter fun o => o.origin == .context c

/-- Post the outcome of a context order that uses no slot (R78 step 4, R83). -/
def State.postUnslotted (s : State) (c v : Nat) (action : Action) (outcome : OrderOutcome) : State :=
  s.post .operations (.orderOutcome none v action (.context c) outcome 0)

/-- Steps 3 to 8 of R83 for a valve and an action: the outcome of the first check that fails. -/
def State.requestCheck (s : State) (v : Nat) (action : Action) : Option OrderOutcome :=
  match s.ms.valves.get v, s.vou.valves.get v with
  | some rec, some live =>
    if rec.actuation ≠ .remote then some (.refused .state)
    else if live.inhibit then some (.refused .inhibited)
    else if live.slot.isSome || s.waits v then some (.refused .state)
    else if live.authority ≠ some .remote then some (.refused .authority)
    else if s.stationLost rec then some (.refused .link)
    else if action.reached live.position then some .doneAlready
    else none
  | _, _ => some (.refused .state)

/-- What the Valve and Order Unit answers to a context order request (R83). -/
inductive OrderReply
  | slot (index : Nat)
  | waiting
  | outcome (o : OrderOutcome)
deriving DecidableEq, Repr

/-- A request that ends without a slot: its outcome is posted and answered (R83). -/
def State.endRequest (s : State) (c v : Nat) (action : Action) (o : OrderOutcome) : State × OrderReply :=
  (s.postUnslotted c v action o, .outcome o)

/-- A context order request (R83). -/
def State.contextRequest (s : State) (c v : Nat) (action : Action) : State × OrderReply :=
  if !s.inSupervise then s.endRequest c v action (.refused .mode)
  else if s.vou.hold then s.endRequest c v action (.refused .hold)
  else match s.requestCheck v action with
    | some o => s.endRequest c v action o
    | none =>
      match s.freeSlot with
      | some k => (s.takeSlot k v action 3 (.context c) false, .slot k)
      | none =>
        if Config.waitingList ≤ s.vou.waiting.length then s.endRequest c v action (.refused .full)
        else (s.setWaiting (s.vou.waiting ++ [⟨c, v, action, s.now⟩]), .waiting)

end Sys2Proof.Machine
end

