-- ==== Sys2Proof/Machine/Store.lean ====
section
/-! DEFINITION. The Model Store's validation (section 1.4) and derived lists (section 1.6). -/
namespace Sys2Proof.Machine

/-! ## What names a segment or an outstation -/

/-- A valve names a segment as side A or side B (R13, R14). -/
def ValveRec.names (v : ValveRec) (seg : Nat) : Bool := v.sideA == .segment seg || v.sideB == seg

/-- The other side of a valve from a segment (R131). -/
def ValveRec.otherSide (v : ValveRec) (seg : Nat) : Side :=
  if v.sideA = .segment seg then .segment v.sideB else v.sideA

/-- The loaded valves that name a segment, in ascending index (R14). -/
def ModelStore.valvesNaming (m : ModelStore) (seg : Nat) : List Nat :=
  (m.valves.rows.filter fun r => r.2.names seg).map (·.1)

/-- The loaded points that name a segment, in ascending index (R14). -/
def ModelStore.pointsNaming (m : ModelStore) (seg : Nat) : List Nat :=
  (m.points.rows.filter fun r => r.2.segment == seg).map (·.1)

/-- The loaded point on a channel of an outstation, the lowest-indexed one (R14). -/
def ModelStore.pointOn (m : ModelStore) (st ch : Nat) : Option Nat :=
  (m.points.rows.find? fun r => r.2.station == st && r.2.channel == ch).map (·.1)

/-- The loaded REMOTE or MONITORED valve on a channel of an outstation, the lowest-indexed one (R14). A MANUAL valve
has no outstation and appears on no channel. -/
def ModelStore.valveOn (m : ModelStore) (st ch : Nat) : Option Nat :=
  (m.valves.rows.find? fun r => r.2.station == some st && r.2.channel == some ch).map (·.1)

/-- A channel map: for each channel 0..7 that `on` names, the pair of channel and record. -/
def channelMap (on : Nat → Option Nat) : List (Nat × Nat) :=
  (List.range Config.channels).filterMap fun ch => (on ch).map fun i => (ch, i)

/-- The derived lists and channel maps of the loaded records (R14). -/
def ModelStore.derive (m : ModelStore) : Derived :=
  { adjacent := m.segments.mapRows fun seg _ => m.valvesNaming seg
    segmentPoints := m.segments.mapRows fun seg _ => m.pointsNaming seg
    pointMap := m.stations.mapRows fun st _ => channelMap (m.pointOn st)
    valveMap := m.stations.mapRows fun st _ => channelMap (m.valveOn st) }

/-! ## The checks of R13 -/

/-- The checks of one segment, orders 1 and 2. -/
def ModelStore.checkSegment (m : ModelStore) (seg : Nat) : Option FailureReport :=
  let valves := (m.valvesNaming seg).length
  let points := (m.pointsNaming seg).length
  if Config.perSegment < valves then some ⟨.segment, some seg, .segAdjacency, none, some valves⟩
  else if Config.perSegment < points then some ⟨.segment, some seg, .segPoints, none, some points⟩
  else none

/-- The tier order IP above MP above LP (section 5.6). -/
def Tier.height : Tier → Nat
  | .lp => 0
  | .mp => 1
  | .ip => 2

/-- Order 3: a side that names a segment not loaded, side A first. -/
def ModelStore.unloadedSide (m : ModelStore) (v : ValveRec) : Option Nat :=
  let unloaded := fun seg => if (m.segments.get seg).isNone then some seg else none
  match v.sideA with
  | .source => unloaded v.sideB
  | .segment a => (unloaded a).or (unloaded v.sideB)

/-- Orders 4 and 5: the tiers of the two segments of a REGULATOR or LINE valve. -/
def ModelStore.tierFault (m : ModelStore) (v : ValveRec) : Option ModelFault :=
  match v.sideA with
  | .source => none
  | .segment a =>
    match m.segments.get a, m.segments.get v.sideB with
    | some ra, some rb =>
      match v.kind with
      | .regulator => if rb.tier.height < ra.tier.height then none else some .valveTierOrder
      | .line => if ra.tier = rb.tier then none else some .valveTierMatch
      | .feed => none
    | _, _ => none

/-- Orders 6 to 8: the outstation and channel of a REMOTE or MONITORED valve. -/
def ModelStore.valveChannelFault (m : ModelStore) (i : Nat) (v : ValveRec) : Option FailureReport :=
  match v.station, v.channel with
  | some st, some ch =>
    if (m.stations.get st).isNone then some ⟨.valve, some i, .valveStation, some st, none⟩
    else if Config.channels ≤ ch then some ⟨.valve, some i, .valveChannel, some st, some ch⟩
    else match m.valveOn st ch with
      | some j => if j < i then some ⟨.valve, some i, .valveShared, some j, some ch⟩ else none
      | none => none
  | _, _ => none

/-- The checks of one valve, orders 3 to 8. -/
def ModelStore.checkValve (m : ModelStore) (i : Nat) (v : ValveRec) : Option FailureReport :=
  match m.unloadedSide v with
  | some seg => some ⟨.valve, some i, .valveSide, some seg, none⟩
  | none =>
    match m.tierFault v with
    | some reason => some ⟨.valve, some i, reason, some v.sideB, none⟩
    | none => m.valveChannelFault i v

/-- The checks of one point, orders 9 to 12. -/
def ModelStore.checkPoint (m : ModelStore) (i : Nat) (p : PointRec) : Option FailureReport :=
  if (m.segments.get p.segment).isNone then some ⟨.point, some i, .pointSegment, some p.segment, none⟩
  else if (m.stations.get p.station).isNone then some ⟨.point, some i, .pointStation, some p.station, none⟩
  else if Config.channels ≤ p.channel then some ⟨.point, some i, .pointChannel, some p.station, some p.channel⟩
  else match m.pointOn p.station p.channel with
    | some j => if j < i then some ⟨.point, some i, .pointShared, some j, some p.channel⟩ else none
    | none => none

/-- The check of one outstation, order 13. -/
def ModelStore.checkStation (m : ModelStore) (i : Nat) (r : StationRec) : Option FailureReport :=
  match m.stations.rows.find? fun q => q.2.line == r.line && q.2.address == r.address with
  | some q => if q.1 < i then some ⟨.station, some i, .stationAddress, some q.1, some r.address⟩ else none
  | none => none

/-- Order 14: no FEED valve is loaded. -/
def ModelStore.checkFeed (m : ModelStore) : Option FailureReport :=
  if m.valves.rows.any fun r => r.2.kind == .feed then none else some ⟨.none, none, .noFeed, none, none⟩

/-- The first check that fails, in the order of R13. -/
def ModelStore.firstFailure (m : ModelStore) : Option FailureReport :=
  (m.segments.rows.findSome? fun r => m.checkSegment r.1).or
    ((m.valves.rows.findSome? fun r => m.checkValve r.1 r.2).or
      ((m.points.rows.findSome? fun r => m.checkPoint r.1 r.2).or
        ((m.stations.rows.findSome? fun r => m.checkStation r.1 r.2).or m.checkFeed)))

/-- Validation (R12): on success the derived lists are kept; on failure they are discarded and the report is given. -/
def ModelStore.validate (m : ModelStore) : ModelStore × Option FailureReport :=
  match m.firstFailure with
  | some report => ({ m with derived := none }, some report)
  | none => ({ m with derived := some m.derive }, none)

/-! ## Clearing -/

/-- MODEL_CLEAR's effect on the store (R11). -/
def ModelStore.clear (m : ModelStore) : ModelStore :=
  { m with
    segments := .empty, valves := .empty, points := .empty, stations := .empty
    lines := .replicate 4 .default, tiers := .default, derived := none }

end Sys2Proof.Machine
end

