-- ==== Sys2Proof/Machine/Engine.lean ====
section
/-! DEFINITION. The Model Engine (chapter 5): job queue, supply trace, and the running of the zone search, with the
usability of valves it is judged by (R129). -/
namespace Sys2Proof.Machine

/-! ## Usability of a valve (R129) -/

/-- The action by which a valve's closure is obtained (R129). -/
def closeActionOf (rec : ValveRec) (live : ValveLive) : CloseAction :=
  if live.position = .closed then .noneClosed
  else if rec.actuation = .remote ∧ live.authority = some .remote then .remote
  else .crew

/-- The usability of valve `v` for a search with the given remote-only option and extra-unusable list: the action of
a usable valve, none for an unusable one (R129). -/
def usability (remoteOnly : Bool) (barred : List Nat) (v : Nat) (rec : ValveRec) (live : ValveLive) :
    Option CloseAction :=
  let action := closeActionOf rec live
  if live.inhibit || live.limitFault || live.travelFault || live.position == .unknown || barred.contains v
      || (remoteOnly && action == .crew) then none
  else some action

/-- A valve change is a usability change when the usability or the action differs from what it was (R96). -/
def usabilityChanges (remoteOnly : Bool) (barred : List Nat) (v : Nat) (rec : ValveRec) (old new : ValveLive) : Bool :=
  usability remoteOnly barred v rec old != usability remoteOnly barred v rec new

/-! ## The supply trace (R91, R92) -/

/-- A valve is judged passing or blocking from its live record (R91). -/
def ValveLive.passing (v : ValveLive) : Bool :=
  match v.position with
  | .opened => true
  | .travel => true
  | .closed => false
  | .unknown => v.settled == .opened

/-- The valves judged passing now, in ascending index (R91). -/
def State.passingValves (s : State) : List Nat := (s.vou.valves.rows.filter fun r => r.2.passing).map (·.1)

/-- The segments one passing valve adds to a fed set (R92): a FEED valve feeds its side B; a REGULATOR feeds its
side B from its side A; a LINE valve feeds either side from the other. -/
def ValveRec.feeds (v : ValveRec) (fed : List Nat) : List Nat :=
  match v.kind, v.sideA with
  | .feed, _ => [v.sideB]
  | .regulator, .segment a => if fed.contains a then [v.sideB] else []
  | .line, .segment a =>
    (if fed.contains a then [v.sideB] else []) ++ (if fed.contains v.sideB then [a] else [])
  | _, .source => []

/-- One round of spreading a fed set through the passing valves. -/
def spreadFed (valves : List ValveRec) (fed : List Nat) : List Nat :=
  valves.foldl (fun f v => (v.feeds f).foldl appendNew f) fed

/-- Spread until a round adds nothing; `fuel` bounds the rounds. -/
def fedLoop (valves : List ValveRec) : Nat → List Nat → List Nat
  | 0, fed => fed
  | fuel + 1, fed =>
    let fed' := spreadFed valves fed
    if fed'.length = fed.length then fed else fedLoop valves fuel fed'

/-- The records of the passing valves. -/
def ModelStore.valvesAmong (m : ModelStore) (passing : List Nat) : List ValveRec :=
  (m.valves.rows.filter fun r => passing.contains r.1).map (·.2)

/-- The fed set of a trace (R92): the smallest set closed under the passing valves. Every round but the last adds a
segment, and a valve names at most two, which gives the fuel. -/
def ModelStore.fedSet (m : ModelStore) (passing : List Nat) : List Nat :=
  let valves := m.valvesAmong passing
  fedLoop valves (2 * valves.length + 1) []

/-! ## The zone search (R130, R131) -/

/-- The lowest-indexed context other than `c` whose zone holds one of the segments (R130, R132). -/
def State.overlapWith (s : State) (c : Nat) (zone : List Nat) : Option Nat :=
  (List.range 8).find? fun n => n != c && zone.any fun seg => (s.context n).zone.contains seg

/-- The working zone a search starts from: zone list, then seeds, then extension seeds, none placed twice (R130). -/
def Context.startZone (x : Context) : List Nat := (x.seeds ++ x.extensionSeeds).foldl appendNew x.zone

/-- The search a context's search starts as (R95, R130). The two checks of R130 are made in the order it gives them.
The working zone holds at most 32 segments (R95), so a start zone that exceeds them is cut, and the search has
failed. -/
def State.newSearch (s : State) (c : Nat) : Search :=
  let x := s.context c
  let zone := x.startZone
  { context := c, number := x.searchNumber, remoteOnly := x.remoteOnly, barred := x.barred,
    zone := zone.take Config.zoneSegments, boundary := [], interior := [], segmentAt := 0, valveAt := 0,
    failure := match s.overlapWith c zone with
      | some n => some (.overlap n)
      | none => if Config.zoneSegments < zone.length then some .tooLarge else none
    phase := .zone, rerun := false }

/-- The next valve to examine, from segment number `k` and valve number `j` of that segment on: the numbers reached,
the segment and the valve. `none` when the last segment has been examined. -/
def nextValve (adjacent : Nat → List Nat) : List Nat → Nat → Nat → Option (Nat × Nat × Nat × Nat)
  | [], _, _ => none
  | seg :: rest, k, j =>
    match (adjacent seg)[j]? with
    | some v => some (k, j, seg, v)
    | none => nextValve adjacent rest (k + 1) 0

/-- The next valve the running search examines (R131). -/
def State.nextExamined (s : State) (r : Search) : Option (Nat × Nat × Nat × Nat) :=
  nextValve s.ms.adjacentOf (r.zone.drop r.segmentAt) r.segmentAt r.valveAt

/-- A usable valve joins the boundary with its action, unless already listed; more than 24 fail the search (R131). -/
def Search.joinBoundary (r : Search) (v : Nat) (action : CloseAction) : Search :=
  if r.boundary.any fun e => e.1 == v then r
  else if Config.boundaryValves < r.boundary.length + 1 then { r with failure := some .tooLarge }
  else { r with boundary := r.boundary ++ [(v, action)] }

/-- A segment joins the working zone; more than 32 fail the search (R131). -/
def Search.joinZone (r : Search) (seg : Nat) : Search :=
  if Config.zoneSegments < r.zone.length + 1 then { r with failure := some .tooLarge }
  else { r with zone := r.zone ++ [seg] }

/-- A valve is interior: it joins the interior list and leaves the boundary (R131). -/
def Search.joinInterior (r : Search) (v : Nat) : Search :=
  { r with interior := appendNew r.interior v, boundary := r.boundary.filter fun e => e.1 != v }

/-- The first case of R131 that fits the valve `v` met from segment `seg`. -/
def State.examine (s : State) (r : Search) (seg v : Nat) : Search :=
  match s.ms.valves.get v, s.vou.valves.get v with
  | some rec, some live =>
    let usable := usability r.remoteOnly r.barred v rec live
    match rec.otherSide seg with
    | .source =>
      match usable with
      | some action => r.joinBoundary v action
      | none => { r with failure := some (.unboundedFeed v) }
    | .segment o =>
      if r.zone.contains o then r.joinInterior v
      else match usable with
        | some action => r.joinBoundary v action
        | none =>
          match s.memberOf o with
          | some n => if n = r.context then r.joinZone o else { r with failure := some (.overlap n) }
          | none => r.joinZone o
  | _, _ => r

/-! ## Jobs (R88 to R90, R95 to R97, R100) -/

/-- Write the engine's state. -/
def State.setEngine (s : State) (e : EngineState) : State := s.withMe { s.me with state := e }

/-- The engine chooses its next job (R90): the pending trace, then the head of the search queue, then IDLE. -/
def State.chooseJob (s : State) : State :=
  if s.me.pendingTrace then
    s.withMe { s.me with pendingTrace := false, state := .tracing s.passingValves false }
  else match s.me.queue with
    | c :: rest => s.withMe { s.me with queue := rest, state := .searching (s.newSearch c) }
    | [] => s.setEngine .idle

/-- A trace request (R88). Where one event changes several positions, each change requests a trace by the table of R88 (DESIGN
CHOICE, log entry 27). -/
def State.requestTrace (s : State) : State :=
  match s.me.state with
  | .idle => (s.withMe { s.me with pendingTrace := true }).chooseJob
  | .tracing passing _ => s.setEngine (.tracing passing true)
  | .searching _ => s.withMe { s.me with pendingTrace := true }

/-- A context joins the end of the search queue; an IDLE engine then chooses its next job (R89). -/
def State.enqueueSearch (s : State) (c : Nat) : State :=
  let s' := s.withMe { s.me with queue := appendNew s.me.queue c }
  match s.me.state with
  | .idle => s'.chooseJob
  | _ => s'

/-- A search request for a context (R89). -/
def State.requestSearch (s : State) (c : Nat) : State :=
  match s.me.state with
  | .searching r => if r.context = c then s.setEngine (.searching { r with rerun := true }) else s.enqueueSearch c
  | _ => s.enqueueSearch c

/-- A withdrawal of a context's search (R100). -/
def State.withdrawSearch (s : State) (c : Nat) : State :=
  let queued := s.withMe { s.me with queue := s.me.queue.filter (· != c) }
  match s.me.state with
  | .searching r => if r.context = c then s.chooseJob else queued
  | _ => queued

/-- The engine takes a valve change (R64): a change of position requests a trace (R88), and a usability change of a
valve next to the working zone sets the search rerun flag (R96). -/
def State.engineValveChange (s : State) (v : Nat) (old new : ValveLive) : State :=
  let s := if old.position ≠ new.position then s.requestTrace else s
  match s.me.state, s.ms.valves.get v with
  | .searching r, some rec =>
    if (r.zone.any fun seg => (s.ms.adjacentOf seg).contains v)
        && usabilityChanges r.remoteOnly r.barred v rec old new then
      s.setEngine (.searching { r with rerun := true })
    else s
  | _, _ => s

/-! ## What a completed search delivers (R97 to R99) -/

/-- A successful search result (R97). -/
structure SearchPlan where
  zone : List Nat
  boundary : List (Nat × CloseAction)
  interior : List Nat
  collateral : List Nat
  sums : PlanSums
deriving DecidableEq, Repr

/-- The collateral list (R98): the loaded segments, ascending, fed by the latest completed trace, outside the zone and
outside the fed set of the collateral trace. -/
def State.collateralOf (s : State) (zone passing : List Nat) : List Nat :=
  let still := s.ms.fedSet passing
  s.ms.segments.indexes.filter fun seg =>
    (s.me.fed.get seg == some true) && !zone.contains seg && !still.contains seg

/-- The sum of a count over some segments (R99). -/
def ModelStore.sumOver (m : ModelStore) (f : SegmentRec → Nat) (segs : List Nat) : Nat :=
  (segs.map fun seg => ((m.segments.get seg).map f).getD 0).sum

/-- The four sums of a plan (R99). -/
def ModelStore.planSums (m : ModelStore) (zone collateral : List Nat) : PlanSums :=
  { zonePoints := m.sumOver (·.servicePoints) zone
    zoneCritical := m.sumOver (·.criticalConsumers) zone
    collateralPoints := m.sumOver (·.servicePoints) collateral
    collateralCritical := m.sumOver (·.criticalConsumers) collateral }

/-- The success of a search in its COLLATERAL phase (R97, R98, R99). -/
def State.planOf (s : State) (r : Search) (passing : List Nat) : SearchPlan :=
  let collateral := s.collateralOf r.zone passing
  { zone := r.zone, boundary := r.boundary, interior := r.interior, collateral := collateral,
    sums := s.ms.planSums r.zone collateral }

/-! ## Changes of mode (R87, R94) -/

/-- Leaving CONFIGURE (R87, R94): every loaded segment's fed flag is set, and a trace is requested. -/
def State.startEngine (s : State) : State :=
  (s.withMe { s.me with state := .idle, pendingTrace := false, queue := [],
                        fed := s.ms.segments.mapRows fun _ _ => true }).requestTrace

/-- Entry into CONFIGURE (R87): a running trace is abandoned, the flags are cleared, the fed flags discarded. -/
def State.stopEngine (s : State) : State := s.withMe .reset

end Sys2Proof.Machine
end

