-- ==== Sys2Proof/Machine/Outages.lean ====
section
/-! DEFINITION. The Outage Unit (chapter 8): service states, outage records, grouping and merging, and
customer-minutes. -/
namespace Sys2Proof.Machine

/-! ## The accumulator and the counts (R166, R167) -/

/-- Bring a record's accumulator to the present time (R167). -/
def OutageRecord.bringTo (r : OutageRecord) (now : Time) : OutageRecord :=
  { r with
    accumulator := min (r.accumulator + r.offCount * now.since (r.lastUpdate.getD now)) 18446744073709551615
    lastUpdate := some now }

/-- A segment joins a record (R162, R166), whose accumulator has been brought to the present time. -/
def OutageRecord.join (r : OutageRecord) (e : OutageEntry) (servicePoints critical : Nat) : OutageRecord :=
  { r with
    segments := r.segments ++ [e]
    affected := r.affected + servicePoints
    offCount := r.offCount + servicePoints
    criticalOff := r.criticalOff + critical
    peakOff := max r.peakOff (r.offCount + servicePoints) }

/-- One absorption of a merge, steps 1 to 5 of R165. -/
def OutageRecord.absorb (r a : OutageRecord) : OutageRecord :=
  { r with
    segments := r.segments ++ a.segments
    affected := r.affected + a.affected
    relit := r.relit + a.relit
    noGas := min (r.noGas + a.noGas) 65535
    accumulator := min (r.accumulator + a.accumulator) 18446744073709551615
    offCount := r.offCount + a.offCount
    criticalOff := r.criticalOff + a.criticalOff
    peakOff := max (r.offCount + a.offCount) (max r.peakOff a.peakOff)
    capacityMerged := r.capacityMerged || a.capacityMerged }

/-- A relight takes a segment out of a record (R160 steps 2 and 3, R166). -/
def OutageRecord.relight (r : OutageRecord) (seg servicePoints critical : Nat) : OutageRecord :=
  { r with
    segments := r.segments.filter fun e => e.segment != seg
    offCount := r.offCount - servicePoints
    relit := r.relit + servicePoints
    criticalOff := r.criticalOff - critical }

/-- A segment's service points and critical consumers (R3). -/
def State.consumers (s : State) (seg : Nat) : Nat × Nat :=
  match s.ms.segments.get seg with
  | none => (0, 0)
  | some r => (r.servicePoints, r.criticalConsumers)

/-- Set the outage ref of a segment. -/
def State.setOutageRef (s : State) (seg n : Nat) : State :=
  match s.ou.services.get seg with
  | none => s
  | some x => s.setService seg { x with outage := some n }

/-- A segment joins record `n` (R162, R166, R167). -/
def State.joinRecord (s : State) (n seg : Nat) (cause : OutageCause) : State :=
  let c := s.consumers seg
  (s.setOutage n (((s.outage n).bringTo s.now).join ⟨seg, cause, s.now⟩ c.1 c.2)).setOutageRef seg n

/-! ## Joining (R162 to R165) -/

/-- The segments that share a valve with a segment: the other sides of its adjacent valves (R162). -/
def State.neighbours (s : State) (seg : Nat) : List Nat :=
  (s.ms.adjacentOf seg).filterMap fun v =>
    match s.ms.valves.get v with
    | none => none
    | some r =>
      match r.otherSide seg with
      | .source => none
      | .segment o => some o

/-- A record lists a candidate's segment for a joining segment (R162). -/
def State.isCandidate (s : State) (seg : Nat) (member : Option Nat) (n : Nat) : Bool :=
  (s.outage n).segments.any fun e =>
    (s.neighbours seg).contains e.segment
      || (member.isSome && ((s.ou.services.get e.segment).bind (·.member)) == member)

/-- The candidates of a join, oldest first (R161, R162). -/
def State.candidates (s : State) (seg : Nat) (member : Option Nat) : List Nat :=
  s.ou.active.filter (s.isCandidate seg member)

/-- Bring the accumulator of a record to the present time. -/
def State.bringRecord (s : State) (n : Nat) : State := s.setOutage n ((s.outage n).bringTo s.now)

/-- Make a record FREE (R161). -/
def State.freeRecord (s : State) (n : Nat) : State :=
  (s.withOu { s.ou with active := s.ou.active.filter (· != n) }).setOutage n .free

/-- One absorption into the survivor (R165). -/
def State.absorbRecord (s : State) (survivor a : Nat) : State :=
  let absorbed := s.outage a
  let merged := (s.outage survivor).absorb absorbed
  let s := s.setOutage survivor merged
  let s := absorbed.segments.foldl (fun s e => s.setOutageRef e.segment survivor) s
  let s := (s.stopChannel (Config.outageChannel + a)).freeRecord a
  s.post .service (.outageMerged survivor a absorbed.segments.length merged.affected merged.offCount merged.criticalOff)

/-- A record becomes ACTIVE for a joining segment (R164). -/
def State.openRecord (s : State) (n seg : Nat) (cause : OutageCause) : State :=
  let s := s.setOutage n { OutageRecord.free with state := .active, created := some s.now, lastUpdate := some s.now }
  let s := s.withOu { s.ou with active := s.ou.active ++ [n] }
  let s := s.joinRecord n seg cause
  let s := s.startChannel (Config.outageChannel + n) s.ou.reminder .periodic true
  let r := s.outage n
  s.post (if 0 < r.criticalOff then .safety else .service) (.outageOpened n seg cause r.affected r.criticalOff)

/-- The CLOSED record with the oldest closed time, the lowest index among equals (R163). -/
def State.oldestClosed (s : State) : Option Nat :=
  let age := fun n => s.now.since ((s.outage n).closedAt.getD s.now)
  (List.range 16).foldl (fun best n =>
    if (s.outage n).state = .closed then
      match best with
      | none => some n
      | some b => if age b < age n then some n else best
    else best) none

/-- A join with no candidate takes a record (R163). -/
def State.takeRecord (s : State) (seg : Nat) (cause : OutageCause) : State :=
  match (List.range 16).find? fun n => (s.outage n).state == .free with
  | some n => s.openRecord n seg cause
  | none =>
    match s.oldestClosed with
    | some n =>
      let s := s.post .service (.outageDiscarded n .reused (s.outage n).figures)
      (s.setOutage n .free).openRecord n seg cause
    | none =>
      match s.ou.active with
      | n :: _ =>
        let s := s.joinRecord n seg cause
        s.setOutage n { s.outage n with capacityMerged := true }
      | [] => s

/-- A segment joins an outage record (R162). -/
def State.joinOutage (s : State) (seg : Nat) (cause : OutageCause) (member : Option Nat) : State :=
  match s.candidates seg member with
  | [] => s.takeRecord seg cause
  | n :: rest =>
    let s := if rest.isEmpty then s else (n :: rest).foldl State.bringRecord s
    (rest.foldl (fun s a => s.absorbRecord n a) s).joinRecord n seg cause

/-! ## The service state machine (R156 to R159) -/

/-- The cause of going off supply (the table of R157). The case that table does not list, a return to OFF_SUPPLY of a
fed member segment whose condition is not LOW, is ISOLATION (R158). -/
def Service.offCause (x : Service) : OutageCause :=
  if x.fed then (if x.condition = .low then .lowPressure else .isolation)
  else if x.member.isSome then .isolation else .unfed

/-- Post the SEGMENT_STATE of a change from `old` (R159). -/
def State.postSegmentState (s : State) (seg : Nat) (old : ServiceState) : State :=
  match s.ou.services.get seg with
  | none => s
  | some x =>
    s.post .service (.segmentState seg old x.state x.cause x.outage x.fed x.condition x.member
      (x.outage.map fun n => (s.outage n).capacityMerged))

/-- A segment changes to a state that keeps its record and cause, or has none; unchanged states post nothing. -/
def State.moveService (s : State) (seg : Nat) (x : Service) (new : ServiceState) : State :=
  if x.state = new then s
  else (s.setService seg { x with state := new }).postSegmentState seg x.state

/-- Judge a segment in IN_SERVICE or DEPRESSED (R157). -/
def State.judgeInService (s : State) (seg : Nat) (x : Service) : State :=
  if !x.fed || x.condition == .low then
    let cause := x.offCause
    let s := s.setService seg { x with state := .offSupply, cause := some cause }
    (s.joinOutage seg cause x.member).postSegmentState seg x.state
  else s.moveService seg x (if x.condition = .depressed then .depressed else .inService)

/-- The entry of a segment in its record takes a new cause and keeps its join time (R158). -/
def State.recause (s : State) (seg : Nat) (x : Service) (cause : OutageCause) : State :=
  match x.outage with
  | none => s
  | some n =>
    let r := s.outage n
    s.setOutage n
      { r with segments := r.segments.map fun e => if e.segment = seg then { e with cause := cause } else e }

/-- Judge a segment in OFF_SUPPLY or RESTORING (R158). -/
def State.judgeOff (s : State) (seg : Nat) (x : Service) : State :=
  if x.fed && x.member.isNone && x.condition != .low then s.moveService seg x .restoring
  else match x.state with
    | .restoring =>
      let s := s.recause seg x x.offCause
      s.moveService seg { x with cause := some x.offCause } .offSupply
    | _ => s

/-- Judge a segment against its three copies as they stand (R156). -/
def State.judge (s : State) (seg : Nat) (x : Service) : State :=
  match x.state with
  | .inService => s.judgeInService seg x
  | .depressed => s.judgeInService seg x
  | .offSupply => s.judgeOff seg x
  | .restoring => s.judgeOff seg x

/-- An input event for one segment: write its copies, then judge it (R156). -/
def State.serviceInput (s : State) (seg : Nat) (f : Service → Service) : State :=
  match s.ou.services.get seg with
  | none => s
  | some x => (s.setService seg (f x)).judge seg (f x)

/-- A fed change from the Model Engine (R93, R156). -/
def State.deliverFed (s : State) (seg : Nat) (fed : Bool) : State :=
  s.serviceInput seg fun x => { x with fed := fed }

/-- A condition change from the Pressure Evaluator (R55, R156). -/
def State.deliverCondition (s : State) (seg : Nat) (c : Condition) : State :=
  s.serviceInput seg fun x => { x with condition := c }

/-- A membership change from the Isolation Unit (R127, R156). -/
def State.deliverMember (s : State) (seg : Nat) (member : Option Nat) : State :=
  s.serviceInput seg fun x => { x with member := member }

/-- The service state of a segment. -/
def State.serviceState (s : State) (seg : Nat) : Option ServiceState := (s.ou.services.get seg).map (·.state)

/-- A segment is off supply or being restored: OFF_SUPPLY or RESTORING. -/
def State.isOff (s : State) (seg : Nat) : Bool :=
  s.serviceState seg == some .offSupply || s.serviceState seg == some .restoring

/-! ## Relight, calls, reminders (R160, R168 to R170) -/

/-- A record that a relight has emptied closes (R169). -/
def State.closeRecord (s : State) (n : Nat) : State :=
  let s := (s.bringRecord n).stopChannel (Config.outageChannel + n)
  let r := { s.outage n with state := .closed, closedAt := some s.now }
  let s := (s.withOu { s.ou with active := s.ou.active.filter (· != n) }).setOutage n r
  s.post .service (.outageClosed n r.figures r.capacityMerged)

/-- RELIGHT_DONE taken for a segment in RESTORING that record `n` lists (R160). -/
def State.relightSegment (s : State) (seg n : Nat) (x : Service) : State :=
  let c := s.consumers seg
  let s := s.bringRecord n
  let s := s.setOutage n ((s.outage n).relight seg c.1 c.2)
  let s := s.setService seg
    { x with cause := none, outage := none, state := if x.condition = .depressed then .depressed else .inService }
  let s := s.postSegmentState seg x.state
  if (s.outage n).segments.isEmpty then s.closeRecord n else s

/-- A NO_SUPPLY call is counted against a record (R170). -/
def State.countNoGas (s : State) (n : Nat) : State :=
  let r := s.outage n
  s.setOutage n { r with noGas := min (r.noGas + 1) 65535 }

/-- An expiry of an ACTIVE record's reminder channel (R168). -/
def State.outageReminder (s : State) (n : Nat) : State :=
  if (s.outage n).state = .active then
    let s := s.bringRecord n
    let r := s.outage n
    s.post .service (.outageProgress n r.segments.length
      ((r.segments.filter fun e => s.serviceState e.segment == some .restoring).length)
      r.offCount r.criticalOff r.relit r.noGas r.customerMinutes)
  else s

/-! ## Changes of mode (R155, R173) -/

/-- Leaving CONFIGURE: a service record for every loaded segment (R155). -/
def State.startService (s : State) : State :=
  s.withOu { s.ou with services := s.ms.segments.mapRows fun _ _ =>
    { state := .inService, cause := none, outage := none, fed := true, condition := .noData, member := none } }

/-- One record still ACTIVE at the entry into CONFIGURE (R173). -/
def State.discardActive (s : State) (n : Nat) : State :=
  if (s.outage n).state = .active then
    let s := (s.bringRecord n).stopChannel (Config.outageChannel + n)
    let s := s.post .service (.outageDiscarded n .configure (s.outage n).figures)
    s.freeRecord n
  else s

/-- Entry into CONFIGURE: ACTIVE records are discarded in ascending index, then the service records (R173, R155). -/
def State.stopService (s : State) : State :=
  let s := (List.range 16).foldl State.discardActive s
  s.withOu { s.ou with services := .empty }

end Sys2Proof.Machine
end

