-- ==== Sys2Proof/Machine/Isolation.lean ====
section
/-! DEFINITION. The Isolation Unit (chapter 7): contexts, plans, execution, confirmation, breach and release. -/
namespace Sys2Proof.Machine

/-! ## Changes of state -/

/-- A WAITING_SLOT entry becomes OPEN_TODO when its context leaves EXECUTING (R140). -/
def BoundaryEntry.unwait (e : BoundaryEntry) : BoundaryEntry :=
  if e.status = .waitingSlot then { e with status := .openTodo } else e

/-- What leaving a state does to the record: the flags are cleared on leaving CONFIRMED (R148), and WAITING_SLOT
entries become OPEN_TODO on leaving EXECUTING (R140). -/
def Context.leave (x : Context) : Context :=
  match x.state with
  | .confirmed => { x with unverified := false, operatorConfirmed := false }
  | .executing => { x with boundary := x.boundary.map BoundaryEntry.unwait }
  | _ => x

/-- The waiting-list entries of a context are removed, in order, when it leaves EXECUTING or RELEASING (R85). -/
def State.dropWaiting (s : State) (c : Nat) (old : ContextState) : State :=
  if old = .executing ∨ old = .releasing then s.setWaiting (s.vou.waiting.filter fun e => e.context != c) else s

/-- Post the ISOLATION_STATE of a change from `old` (R153). -/
def State.postIsolation (s : State) (c : Nat) (old : ContextState) (breached : Option Nat) : State :=
  let x := s.context c
  s.post (if x.state = .holding ∨ x.state = .breached then .safety else .operations)
    (.isolationState c x.incident old x.state x.revision
      (if x.state = .holding then some x.suspects else none)
      breached
      (if x.state = .confirmed then some (x.unverified, x.operatorConfirmed) else none))

/-- A context changes state: it leaves its old one, takes the new one with the fields `f` writes, and posts
ISOLATION_STATE. -/
def State.enter (s : State) (c : Nat) (new : ContextState) (f : Context → Context) (breached : Option Nat) : State :=
  let x := s.context c
  let s := s.dropWaiting c x.state
  let s := s.setContext c { f x.leave with state := new }
  s.postIsolation c x.state breached

/-- The search number of the next entry into SEARCHING, wrapping (section 7.1). -/
def Context.nextSearch (x : Context) : Context := { x with searchNumber := (x.searchNumber + 1) % 65536 }

/-- A context searches again (R138, R143). -/
def State.searchAgain (s : State) (c : Nat) : State :=
  (s.enter c .searching Context.nextSearch none).requestSearch c

/-- An abort or refusal returns an EXECUTING context to PLANNED (R144). -/
def State.returnToPlanned (s : State) (c : Nat) : State :=
  match (s.context c).state with
  | .executing => s.enter c .planned id none
  | _ => s

/-- What a boundary entry becoming FAILED does to its context: in EXECUTING and in PLANNED it searches again
(R142, R143). -/
def State.failureRule (s : State) (c : Nat) : State :=
  match (s.context c).state with
  | .executing => s.searchAgain c
  | .planned => s.searchAgain c
  | _ => s

/-- Change the boundary entry of a valve. -/
def Context.setEntry (x : Context) (v : Nat) (f : BoundaryEntry → BoundaryEntry) : Context :=
  { x with boundary := x.boundary.map fun e => if e.valve = v then f e else e }

/-- The boundary entry of a valve. -/
def Context.entry (x : Context) (v : Nat) : Option BoundaryEntry := x.boundary.find? fun e => e.valve == v

/-- Write the status of a boundary entry. -/
def State.setStatus (s : State) (c v : Nat) (st : EntryStatus) : State :=
  s.modContext c fun x => x.setEntry v fun e => { e with status := st }

/-! ## Closing (R145 to R147) -/

/-- Every boundary entry is CLOSED. -/
def Context.allClosed (x : Context) : Bool := x.boundary.all fun e => e.status == .closed

/-- The decay set of a capture (R145 step 2, R58): the VALID points of the zone, ascending, with their f. -/
def State.captureDecay (s : State) (zone : List Nat) : List DecayPoint :=
  (rising (zone.flatMap s.ms.pointsOf)).filterMap fun p =>
    match s.pe.points.get p with
    | none => none
    | some x => if x.isValid then x.filtered.map fun f => ⟨p, f, false⟩ else none

/-- The largest confirm time among the tiers of the zone segments (R145 step 3). -/
def State.longestConfirm (s : State) (zone : List Nat) : Nat :=
  (zone.map fun seg => (s.tierOfSegment seg).confirmTime).foldl max 0

/-- Entry into CLOSED_WAIT (R145). -/
def State.enterClosedWait (s : State) (c : Nat) : State :=
  let zone := (s.context c).zone
  let s := s.startChannel (Config.contextChannel + c) (s.longestConfirm zone) .single true
  s.enter c .closedWait (fun x =>
    { x with suspects := [], unverified := false, operatorConfirmed := false, decaySet := s.captureDecay zone }) none

/-- In EXECUTING, a context whose boundary entries are all CLOSED enters CLOSED_WAIT (R141, R145). -/
def State.checkClosed (s : State) (c : Nat) : State :=
  let x := s.context c
  if x.state = .executing && x.allClosed then s.enterClosedWait c else s

/-- A point decays at filtered value `f`: at or below its reference minus ΔP, as a signed number, or at or below V
(R146). -/
def decays (t : TierRec) (reference f : Nat) : Bool :=
  (f : Int) ≤ (reference : Int) - (t.confirmDrop : Int) || f ≤ t.ventThreshold

/-- The context is CONFIRMED once its decay set is not empty and every point in it has decayed (R146). -/
def State.checkDecayed (s : State) (c : Nat) : State :=
  let x := s.context c
  if !x.decaySet.isEmpty && x.decaySet.all (·.decayed) then
    (s.stopChannel (Config.contextChannel + c)).enter c .confirmed id none
  else s

/-- A point leaves the decay set (R146). -/
def State.dropDecay (s : State) (c p : Nat) : State :=
  (s.modContext c fun x => { x with decaySet := x.decaySet.filter fun d => d.point != p }).checkDecayed c

/-- Mark the points of a decay set that decay at a sample (R146). -/
def State.judgeDecay (s : State) (c p f : Nat) (t : TierRec) : State :=
  (s.modContext c fun x =>
    { x with decaySet := x.decaySet.map fun d =>
        if d.point = p then { d with decayed := d.decayed || decays t d.reference f } else d }).checkDecayed c

/-- The context takes offers for this point: it is in CLOSED_WAIT and the point is in its decay set (R146). -/
def Context.watches (x : Context) (p : Nat) : Bool := x.state == .closedWait && x.decaySet.any fun d => d.point == p

/-- A sample offered by the Pressure Evaluator: the state it leaves the point in, and f (R56, R146). -/
def State.offerSample (s : State) (c p : Nat) (state : PointState) (f : Option Nat) (seg : Nat) : State :=
  if (s.context c).watches p then
    match state, f with
    | .valid, some f => s.judgeDecay c p f (s.tierOfSegment seg)
    | .fault _, _ => s.dropDecay c p
    | _, _ => s
  else s

/-- The Pressure Evaluator tells that a point entered STALE (R57, R146). -/
def State.tellStale (s : State) (c p : Nat) : State := if (s.context c).watches p then s.dropDecay c p else s

/-- The suspect list (R147): the boundary valves adjacent to a segment that holds an undecayed point of the set,
ascending. -/
def State.suspectsOf (s : State) (x : Context) : List Nat :=
  let segs := (x.decaySet.filter fun d => !d.decayed).filterMap fun d => (s.ms.points.get d.point).map (·.segment)
  (rising (x.boundary.map (·.valve))).filter fun v => segs.any fun seg => (s.ms.adjacentOf seg).contains v

/-- An expiry of channel 60 + n (R147). -/
def State.contextExpiry (s : State) (c : Nat) : State :=
  let x := s.context c
  if x.state = .closedWait then
    if x.decaySet.any fun d => !d.decayed then
      s.enter c .holding (fun y => { y with suspects := s.suspectsOf x }) none
    else if x.decaySet.isEmpty then s.enter c .confirmed (fun y => { y with unverified := true }) none
    else s
  else s

/-! ## Order requests and their answers (R139, R140) -/

/-- The status an answer gives an entry (R140). -/
def OrderReply.status : OrderReply → EntryStatus
  | .slot _ => .ordered
  | .waiting => .waitingSlot
  | .outcome .doneAlready => .closed
  | .outcome (.refused .mode) => .openTodo
  | .outcome (.refused .hold) => .openTodo
  | .outcome _ => .failed

/-- What an answer does to the context besides the status (R140): R144 for MODE and HOLD, R142 for another
refusal, and the end of execution when every entry is CLOSED. -/
def State.answerEffect (s : State) (c : Nat) : OrderReply → State
  | .slot _ => s
  | .waiting => s
  | .outcome .doneAlready => s.checkClosed c
  | .outcome (.refused .mode) => s.returnToPlanned c
  | .outcome (.refused .hold) => s.returnToPlanned c
  | .outcome _ => s.failureRule c

/-- Request a CLOSE for a boundary entry and set its status by the answer (R139, R140). -/
def State.requestClose (s : State) (c v : Nat) : State × OrderReply :=
  let r := s.contextRequest c v .close
  (r.1.setStatus c v r.2.status, r.2)

/-! ## Freeing a context and the end of a release (R128, R152) -/

/-- Deliver that some segments are no longer members, in ascending index (R127). -/
def State.leaveZone (s : State) (zone : List Nat) : State :=
  (rising zone).foldl (fun s seg => s.deliverMember seg none) s

/-- A context becomes FREE (R128). -/
def State.freeContext (s : State) (c : Nat) : State :=
  let x := s.context c
  let s := s.dropWaiting c x.state
  let s := s.stopChannel (Config.contextChannel + c)
  let s := s.withdrawSearch c
  let s := (s.modContext c fun y => { y with zone := [] }).leaveZone x.zone
  let s := if x.incident = 0 then s else s.linkIncident x.incident none
  let s := (s.modContext c fun y => { y with state := .free }).postIsolation c x.state none
  s.setContext c (.freeWith x.searchNumber)

/-- When every reopen entry is OPENED the release ends (R152). -/
def State.checkReleased (s : State) (c : Nat) : State :=
  let x := s.context c
  if x.state = .releasing && x.reopen.all (fun e => e.status == .opened) then s.freeContext c else s

/-- Change the reopen entry of a valve. -/
def State.modReopen (s : State) (c v : Nat) (f : ReopenEntry → ReopenEntry) : State :=
  s.modContext c fun x => { x with reopen := x.reopen.map fun e => if e.valve = v then f e else e }

/-- The reopen entry an answer to a request for OPEN gives (R151, R152). -/
def OrderReply.reopen (v : Nat) : OrderReply → ReopenEntry
  | .slot _ => ⟨v, some .remote, .ordered, none⟩
  | .waiting => ⟨v, some .remote, .waitingSlot, none⟩
  | .outcome .doneAlready => ⟨v, some .remote, .opened, none⟩
  | .outcome o => ⟨v, some .remote, .failed, some o⟩

/-- Request an OPEN for a reopen entry. -/
def State.requestOpen (s : State) (c v : Nat) : State :=
  let r := s.contextRequest c v .opening
  r.1.modReopen c v fun _ => r.2.reopen v

/-- A live CLOSE order of this context for a valve (R151). -/
def State.closingOrder (s : State) (c v : Nat) : Bool :=
  match s.contextOrder c v with
  | none => false
  | some o => o.action == .close

/-- Route a reopen entry by the table of R151, its conditions taken in the table's order: a valve in OPEN is OPENED even
while a CLOSE order of this context is live for it (log entry 8 names what R152 remarks on such an entry). -/
def State.routeReopen (s : State) (c v : Nat) : State :=
  match s.ms.valves.get v, s.vou.valves.get v with
  | some rec, some live =>
    if live.position = .opened then s.modReopen c v fun _ => ⟨v, none, .opened, none⟩
    else if s.closingOrder c v then s.modReopen c v fun _ => ⟨v, none, .held, none⟩
    else if rec.actuation = .remote ∧ live.authority = some .remote then s.requestOpen c v
    else s.modReopen c v fun _ => ⟨v, some .crew, .crewTodo, none⟩
  | _, _ => s

/-- The valves of the reopen list, ascending, no valve twice (R151). -/
def State.reopenValves (s : State) (c : Nat) : List Nat :=
  let x := s.context c
  rising (((x.boundary.filter fun e => e.byContext || e.status == .ordered).map (·.valve)) ++ x.interiorClosed
    ++ (s.vou.valves.indexes.filter fun v => s.closingOrder c v))

/-! ## Outcomes and grants (R140, R142, R144, R152) -/

/-- The outstation accepted the order, so the closed-by-context flag is set (R142). -/
def OrderOutcome.accepted : OrderOutcome → Bool
  | .done => true
  | .travelTimeout => true
  | .interruptedLocal => true
  | .abortedLate => true
  | .abortedMoving => true
  | _ => false

/-- The outcomes that R142 answers with a return to PLANNED. -/
def OrderOutcome.aborts : OrderOutcome → Bool
  | .abortedLate => true
  | .abortedMoving => true
  | .aborted => true
  | .abortedHold => true
  | .abortedMode => true
  | .refused .mode => true
  | .refused .hold => true
  | _ => false

/-- The status a CLOSE outcome leaves an entry in (R142); DONE_ALREADY gives CLOSED (R140). -/
def OrderOutcome.entryStatus (o : OrderOutcome) (old : EntryStatus) : EntryStatus :=
  match o with
  | .done => old
  | .doneAlready => .closed
  | _ => if o.aborts then (if old = .closed then .closed else .openTodo) else .failed

/-- A CLOSE outcome of a boundary valve (R142). -/
def State.boundaryOutcome (s : State) (c v : Nat) (o : OrderOutcome) : State :=
  let s := s.modContext c fun x => x.setEntry v fun e =>
    { e with status := o.entryStatus e.status, byContext := e.byContext || o.accepted }
  match o with
  | .done => s
  | .doneAlready => s.checkClosed c
  | _ => if o.aborts then s.returnToPlanned c else s.failureRule c

/-- A CLOSE outcome of a valve not on the boundary: where the table sets the flag, the valve joins the
interior-closed list (R142). -/
def State.interiorOutcome (s : State) (c v : Nat) (o : OrderOutcome) : State :=
  if o.accepted then s.modContext c fun x => { x with interiorClosed := appendNew x.interiorClosed v } else s

/-- A CLOSE outcome reaches the release: a HELD entry is routed again (R152). -/
def State.heldOutcome (s : State) (c v : Nat) : State :=
  let x := s.context c
  if x.state = .releasing && x.reopen.any (fun e => e.valve == v && e.status == .held) then
    (s.routeReopen c v).checkReleased c
  else s

/-- The outcome of a CLOSE order of a context (R142, R152). -/
def State.closeOutcome (s : State) (c v : Nat) (o : OrderOutcome) : State :=
  match (s.context c).state with
  | .free => s
  | _ =>
    (if ((s.context c).entry v).isSome then s.boundaryOutcome c v o else s.interiorOutcome c v o).heldOutcome c v

/-- The outcome of an OPEN order of a context (R152). -/
def State.openOutcome (s : State) (c v : Nat) (o : OrderOutcome) : State :=
  match (s.context c).state with
  | .releasing =>
    (s.modReopen c v fun e =>
      match o with
      | .done => { e with status := .opened, lastOutcome := none }
      | .doneAlready => { e with status := .opened, lastOutcome := none }
      | _ => if e.status = .opened then e else { e with status := .failed, lastOutcome := some o }).checkReleased c
  | _ => s

/-- The outcome of an order whose origin is a context is delivered to it (R78 step 5, R142). -/
def State.deliverOutcome (s : State) (c v : Nat) (action : Action) (o : OrderOutcome) : State :=
  match action with
  | .opening => s.openOutcome c v o
  | _ => s.closeOutcome c v o

/-- A slot is granted to a waiting entry (R84, R140, R152). -/
def State.deliverGrant (s : State) (c v : Nat) (action : Action) : State :=
  match action with
  | .opening => s.modReopen c v fun e => { e with status := .ordered }
  | _ => s.setStatus c v .ordered

/-! ## Valve changes (R138, R141, R149, R152) -/

/-- A boundary valve's position becomes CLOSED (R141). -/
def State.boundaryClosed (s : State) (c v : Nat) : State :=
  let executing := (s.context c).state == .executing
  (s.modContext c fun x => x.setEntry v fun e =>
    { e with status := .closed, byContext := e.byContext || (executing && e.action == .crew) }).checkClosed c

/-- A breach (R149). -/
def State.breach (s : State) (c v : Nat) : State :=
  (s.stopChannel (Config.contextChannel + c)).enter c .breached
    (fun x => x.setEntry v fun e => { e with status := .openTodo }) (some v)

/-- A boundary valve's position becomes OPEN or TRAVEL (R141, R149). -/
def State.boundaryOpened (s : State) (c v : Nat) (e : BoundaryEntry) : State :=
  match (s.context c).state with
  | .closedWait => s.breach c v
  | .confirmed => s.breach c v
  | .holding => s.breach c v
  | .executing =>
    if e.status = .closed then
      let s := s.setStatus c v .openTodo
      if e.action = .remote && (s.liveOrder v).isNone then
        let r := s.requestClose c v
        r.1.answerEffect c r.2
      else s
    else s
  | _ => if e.status = .closed then s.setStatus c v .openTodo else s

/-- A boundary valve's position becomes UNKNOWN (R141). -/
def State.boundaryUnknown (s : State) (c v : Nat) (e : BoundaryEntry) : State :=
  match (s.context c).state with
  | .executing => if e.status = .closed then s else (s.setStatus c v .failed).failureRule c
  | _ => s

/-- The update of a boundary entry by its valve's new position (R141). -/
def State.boundaryUpdate (s : State) (c v : Nat) (p : Position) : State :=
  match (s.context c).entry v with
  | none => s
  | some e =>
    match p with
    | .closed => s.boundaryClosed c v
    | .opened => s.boundaryOpened c v e
    | .travel => s.boundaryOpened c v e
    | .unknown => s.boundaryUnknown c v e

/-- A usability change of a boundary valve makes a PLANNED plan stale (R138). -/
def State.staleCheck (s : State) (c v : Nat) (old new : ValveLive) : State :=
  let x := s.context c
  match s.ms.valves.get v with
  | none => s
  | some rec =>
    if x.state = .planned && (x.entry v).isSome && usabilityChanges x.remoteOnly x.barred v rec old new then
      s.searchAgain c
    else s

/-- A listed valve that changes to OPEN completes its reopen entry when no order of this context is live for it
(R152). -/
def State.reopened (s : State) (c v : Nat) : State :=
  let x := s.context c
  if x.state = .releasing && x.reopen.any (fun e => e.valve == v) && (s.contextOrder c v).isNone then
    (s.modReopen c v fun e => { e with status := .opened, lastOutcome := none }).checkReleased c
  else s

/-- A valve change reaches one context. R138 judges it where the change finds the context in PLANNED (R141); a context
that the change itself returns to PLANNED keeps its plan (R144). -/
def State.contextValveChange (s : State) (v : Nat) (old new : ValveLive) (c : Nat) : State :=
  match (s.context c).state with
  | .free => s
  | .planned =>
    (if old.position = new.position then s else s.boundaryUpdate c v new.position).staleCheck c v old new
  | _ =>
    let s := if old.position = new.position then s else s.boundaryUpdate c v new.position
    if old.position ≠ new.position ∧ new.position = .opened then s.reopened c v else s

/-- A valve change reaches the Isolation Unit (R64). Where several contexts list the valve, R64 gives no order among
them; the model takes them in ascending index (DESIGN CHOICE, log entry 25). -/
def State.isolationValveChange (s : State) (v : Nat) (old new : ValveLive) : State :=
  (List.range 8).foldl (fun s c => s.contextValveChange v old new c) s

/-! ## Search results (R132 to R134) -/

/-- A failure result (R134). -/
def State.planFails (s : State) (c : Nat) (failure : SearchFailure) : State :=
  let s := s.modContext c fun x => { x with state := .failed, failure := some failure, extensionSeeds := [] }
  let x := s.context c
  s.post (if x.automatic then .safety else .operations) (.planFailed (some c) x.incident (.search failure))

/-- The new boundary entry of a result boundary valve (R133 step 2). -/
def State.planEntry (s : State) (c : Nat) (old : Context) (b : Nat × CloseAction) : BoundaryEntry :=
  { valve := b.1
    action := b.2
    status := if b.2 = .noneClosed then .closed
      else if (s.contextOrder c b.1).isSome then .ordered else .openTodo
    byContext := ((old.entry b.1).map (·.byContext)).getD false }

/-- The interior-closed list after a plan is written (R133 step 3). -/
def Context.keepClosed (old : Context) (boundary : List (Nat × CloseAction)) : List Nat :=
  ((old.boundary.filter fun e => e.byContext && !boundary.any fun b => b.1 == e.valve).map (·.valve)).foldl appendNew
    old.interiorClosed

/-- Deliver that some segments are members, in ascending index (R127). -/
def State.joinZone (s : State) (c : Nat) (segs : List Nat) : State :=
  (rising segs).foldl (fun s seg => s.deliverMember seg (some c)) s

/-- A success is written as the context's plan (R133). -/
def State.writePlan (s : State) (c : Nat) (plan : SearchPlan) : State :=
  let old := s.context c
  let s := s.setContext c
    { old with
      state := .planned
      zone := plan.zone
      boundary := plan.boundary.map (s.planEntry c old)
      interiorClosed := old.keepClosed plan.boundary
      collateral := plan.collateral
      sums := plan.sums
      extensionSeeds := []
      failure := none
      revision := min (old.revision + 1) 65535 }
  let s := s.joinZone c (plan.zone.filter fun seg => !old.zone.contains seg)
  let x := s.context c
  s.post .operations (.planReady c x.incident x.revision x.zone.length x.boundary.length
    ((x.boundary.filter fun e => e.action == .crew).length) x.collateral.length x.sums)

/-- What the Model Engine delivers for a context and a search number (R97). -/
inductive SearchResult
  | success (plan : SearchPlan)
  | failure (reason : SearchFailure)
deriving DecidableEq, Repr

/-- The Isolation Unit takes a result or discards it (R132). -/
def State.takeResult (s : State) (c number : Nat) (r : SearchResult) : State :=
  let x := s.context c
  if x.state = .searching ∧ x.searchNumber = number then
    match r with
    | .failure f => s.planFails c f
    | .success plan =>
      match s.overlapWith c plan.zone with
      | some n => s.planFails c (.overlap n)
      | none => s.writePlan c plan
  else s

/-! ## Planning (R135, R136) -/

/-- The lowest-indexed FREE context (R126). -/
def State.freeContextIndex (s : State) : Option Nat := (List.range 8).find? fun c => (s.context c).state == .free

/-- The lowest-indexed context whose zone holds one of the seeds (R135 step 5). -/
def State.seedTaken (s : State) (seeds : List Nat) : Option Nat :=
  (List.range 8).find? fun c => seeds.any fun seg => (s.context c).zone.contains seg

/-- A PLAN that passes is taken in context `c` (R135). -/
def State.takePlan (s : State) (c serial : Nat) (seeds : List Nat) (remoteOnly automatic : Bool) : State :=
  let s := s.enter c .searching (fun x =>
    { x.nextSearch with incident := serial, seeds := seeds, remoteOnly := remoteOnly, automatic := automatic }) none
  let s := s.requestSearch c
  if serial = 0 then s else s.linkIncident serial (some c)

/-- Steps 3 and 4 of R135 for a serial: the refusal of the first that fails. -/
def State.planIncident (s : State) (serial : Nat) : Option ResultCode :=
  if serial = 0 then none
  else match s.incident serial with
    | none => some .notFound
    | some i => if i.context.isSome then some .state else none

/-- PLAN (R135). -/
def State.planRequest (s : State) (serial : Nat) (seeds : List Nat) (remoteOnly : Nat) : Answered :=
  if !s.inService then refuse s .mode
  else match flagOf remoteOnly with
    | none => refuse s .range
    | some ro =>
      if seeds.length = 0 ∨ 4 < seeds.length ∨ ¬ (seeds.all fun g => (s.ms.segments.get g).isSome) ∨ ¬ seeds.Nodup then
        refuse s .range
      else match s.planIncident serial with
        | some code => refuse s code
        | none =>
          if (s.seedTaken seeds).isSome then refuse s .state
          else match s.freeContextIndex with
            | none => refuse s .full
            | some c => (s.takePlan c serial seeds ro false, .accepted, .context c)

/-- An automatic plan request (R136). -/
def State.autoPlan (s : State) (serial seg : Nat) : State :=
  if !s.inService then s.post .safety (.planFailed none serial .mode)
  else match s.seedTaken [seg] with
    | some n => s.post .safety (.planFailed none serial (.seedTaken n))
    | none =>
      match s.freeContextIndex with
      | none => s.post .safety (.planFailed none serial .noContext)
      | some c => s.takePlan c serial [seg] false true

/-! ## The other requests (R137, R139, R148, R150, R151, R154) -/

/-- The context has put something in the field (R137). -/
def State.inField (s : State) (c : Nat) : Bool :=
  let x := s.context c
  (List.range 12).any (fun k => match s.slot k with
    | none => false
    | some o => o.origin == .context c)
  || x.boundary.any (·.byContext) || !x.interiorClosed.isEmpty

/-- CANCEL (R137). -/
def State.cancelRequest (s : State) (c : Nat) : Answered :=
  if !s.inService then refuse s .mode
  else if 8 ≤ c then refuse s .range
  else
    let st := (s.context c).state
    if (st = .searching ∨ st = .planned ∨ st = .failed) ∧ !s.inField c then (s.freeContext c, .ok, .empty)
    else refuse s .state

/-- The requests of EXECUTE, in boundary-list order: each entry with action REMOTE and status OPEN_TODO or FAILED
(R139). -/
def State.requestClosures (s : State) (c : Nat) : State :=
  ((s.context c).boundary.filter fun e => e.action == .remote && (e.status == .openTodo || e.status == .failed)).foldl
    (fun s e => (s.requestClose c e.valve).1) s

/-- What the requests of EXECUTE lead to within the same event (R139): the failure rule of R142 if an entry has
become FAILED, and CLOSED_WAIT if every entry is CLOSED. -/
def State.settleExecution (s : State) (c : Nat) : State :=
  if (s.context c).boundary.any fun e => e.action == .remote && e.status == .failed then s.failureRule c
  else s.checkClosed c

/-- EXECUTE (R139). -/
def State.executeRequest (s : State) (c : Nat) : Answered :=
  if !s.inSupervise then refuse s .mode
  else if s.vou.hold then refuse s .hold
  else if 8 ≤ c then refuse s .range
  else
    let st := (s.context c).state
    if st = .planned ∨ st = .breached then
      let s := (s.enter c .executing (fun x => { x with executed := true }) none).requestClosures c
      let entries := (s.context c).boundary.map fun e => (e.valve, e.action, e.status)
      let s := s.settleExecution c
      (s, .ok, .executed entries (s.context c).state)
    else refuse s .state

/-- CONFIRM (R148). -/
def State.confirmRequest (s : State) (c : Nat) : Answered :=
  if !s.inService then refuse s .mode
  else if 8 ≤ c then refuse s .range
  else match (s.context c).state with
    | .holding => (s.enter c .confirmed (fun x => { x with operatorConfirmed := true }) none, .ok, .empty)
    | _ => refuse s .state

/-- EXTEND (R150). -/
def State.extendRequest (s : State) (c : Nat) (bars seeds : List Nat) : Answered :=
  if !s.inService then refuse s .mode
  else if 8 ≤ c ∨ 8 < bars.length ∨ 4 < seeds.length ∨ (bars = [] ∧ seeds = [])
      ∨ ¬ (bars.all fun v => (s.ms.valves.get v).isSome) ∨ ¬ (seeds.all fun g => (s.ms.segments.get g).isSome) then
    refuse s .range
  else
    let x := s.context c
    let barred := bars.foldl appendNew x.barred
    if ¬ (x.state = .planned ∨ x.state = .failed ∨ x.state = .holding ∨ x.state = .confirmed ∨ x.state = .breached) then
      refuse s .state
    else if (s.overlapWith c seeds).isSome then refuse s .state
    else if Config.barredValves < barred.length then refuse s .full
    else
      let s := s.stopChannel (Config.contextChannel + c)
      let s := s.enter c .searching (fun y => { y.nextSearch with barred := barred, extensionSeeds := seeds }) none
      (s.requestSearch c, .ok, .empty)

/-- A release begins (R151): the context enters RELEASING and the reopen list is built and routed. -/
def State.beginRelease (s : State) (c : Nat) : State :=
  let s := (s.stopChannel (Config.contextChannel + c)).enter c .releasing id none
  let valves := s.reopenValves c
  let s := s.modContext c fun x => { x with reopen := valves.map fun v => ⟨v, none, .held, none⟩ }
  valves.foldl (fun s v => s.routeReopen c v) s

/-- RELEASE taken in RELEASING routes again every entry in FAILED or CREW_TODO (R151). -/
def State.routeAgain (s : State) (c : Nat) : State :=
  ((s.context c).reopen.filter fun e => e.status == .failed || e.status == .crewTodo).foldl
    (fun s e => s.routeReopen c e.valve) s

/-- The states RELEASE is taken from (R151). -/
def State.releasable (s : State) (c : Nat) : Bool :=
  match (s.context c).state with
  | .confirmed => true
  | .holding => true
  | .breached => true
  | .planned => true
  | .failed => true
  | .releasing => true
  | .executing => s.vou.hold
  | _ => false

/-- RELEASE (R151). -/
def State.releaseRequest (s : State) (c : Nat) : Answered :=
  if !s.inService then refuse s .mode
  else if 8 ≤ c then refuse s .range
  else if !s.releasable c then refuse s .state
  else
    let s := if (s.context c).state = .releasing then s.routeAgain c else s.beginRelease c
    let reopen := (s.context c).reopen
    let s := s.checkReleased c
    (s, .ok, .released reopen (s.context c).state)

/-- READ_CONTEXT (R154), with the mode, prescale and reload that R174 has reported with the channel's state (DEDUCED,
log entry 24). -/
def State.readContext (s : State) (c : Nat) : Answered :=
  if 8 ≤ c then refuse s .range
  else
    let x := s.context c
    (s, .ok, .contextRecord x (x.decaySet.map fun d => (s.pe.points.get d.point).bind (·.filtered))
      (s.channel (Config.contextChannel + c)).report)

end Sys2Proof.Machine
end

