-- ==== Sys2Proof/Machine/Orders.lean ====
section
/-! DEFINITION. The Valve and Order Unit (chapter 4): valve changes, reports and entries, host orders, the life of an
order from WAITING to its outcome, abort, hold and the ends a change of mode makes. -/
namespace Sys2Proof.Machine

/-! ## Valve changes (R64) -/

/-- One of the five fields that make a valve change differs (R64). -/
def ValveLive.differs (a b : ValveLive) : Bool :=
  a.position != b.position || a.authority != b.authority || a.limitFault != b.limitFault
    || a.travelFault != b.travelFault || a.inhibit != b.inhibit

/-- Post the VALVE_STATE of a change of position or of either fault (R64). -/
def State.postValveState (s : State) (v : Nat) (old new : ValveLive) (cause : ValveCause) : State :=
  if old.position ≠ new.position ∨ old.limitFault ≠ new.limitFault ∨ old.travelFault ≠ new.travelFault then
    s.post .operations
      (.valveState v old.position new.position new.settled new.limitFault new.travelFault cause)
  else s

/-- Post the AUTHORITY_CHANGE of a change of authority (R66). -/
def State.postAuthority (s : State) (v : Nat) (old new : ValveLive) (cause : AuthorityCause) : State :=
  match old.authority, new.authority with
  | some a, some b => if a = b then s else s.post .operations (.authorityChange v a b cause)
  | _, _ => s

/-- Write a valve's live record; a valve change reaches the Model Engine and the Isolation Unit (R64). -/
def State.writeValve (s : State) (v : Nat) (old new : ValveLive) : State :=
  let s := s.setValve v new
  if old.differs new then (s.engineValveChange v old new).isolationValveChange v old new else s

/-- A change of a valve's position, faults or inhibit flag, with the cause its notice carries (R64). -/
def State.changeValve (s : State) (v : Nat) (cause : ValveCause) (f : ValveLive → ValveLive) : State :=
  match s.vou.valves.get v with
  | none => s
  | some old => (s.writeValve v old (f old)).postValveState v old (f old) cause

/-- A change of a valve's authority (R64, R66). -/
def State.changeAuthority (s : State) (v : Nat) (cause : AuthorityCause) (new : Authority) : State :=
  match s.vou.valves.get v with
  | none => s
  | some old =>
    (s.writeValve v old { old with authority := some new }).postAuthority v old { old with authority := some new } cause

/-! ## The end of an order (R78, R84) -/

/-- The freed slot is offered to the waiting list, oldest entry first (R84). -/
def State.offerSlot (k : Nat) : Nat → State → State
  | 0, s => s
  | fuel + 1, s =>
    match s.slot k, s.vou.waiting with
    | none, e :: rest =>
      let s := s.setWaiting rest
      match s.requestCheck e.valve e.action with
      | none => (s.takeSlot k e.valve e.action 3 (.context e.context) false).deliverGrant e.context e.valve e.action
      | some o =>
        State.offerSlot k fuel
          ((s.postUnslotted e.context e.valve e.action o).deliverOutcome e.context e.valve e.action o)
    | _, _ => s

/-- Step 3 of R78: RECALL_PENDING returns to LOCAL when a RECALL ends other than DONE (R66). -/
def State.returnRecall (s : State) (o : Order) (outcome : OrderOutcome) : State :=
  if o.action = .recall ∧ outcome ≠ .done
      ∧ (s.vou.valves.get o.valve).bind (·.authority) = some .recallPending then
    s.changeAuthority o.valve (if outcome = .recallUnanswered then .recallUnanswered else .orderEnded) .crew
  else s

/-- Step 5 of R78: the outcome of a context's order is delivered to the Isolation Unit. -/
def State.tellOrigin (s : State) (o : Order) (outcome : OrderOutcome) : State :=
  match o.origin with
  | .host => s
  | .context c => s.deliverOutcome c o.valve o.action outcome

/-- An order in a slot ends (R78). -/
def State.endOrder (s : State) (k : Nat) (outcome : OrderOutcome) : State :=
  match s.slot k with
  | none => s
  | some o =>
    let s := (s.stopChannel (Config.orderChannel + k)).setValveSlot o.valve none
    let s := s.returnRecall o outcome
    let s := s.post .operations (.orderOutcome (some k) o.valve o.action o.origin outcome o.attempts)
    let s := (s.tellOrigin o outcome).setSlot k none
    State.offerSlot k s.vou.waiting.length s

/-- An order ends DONE; of an OPEN or CLOSE it clears the travel fault first (R65, R75). -/
def State.endDone (s : State) (k : Nat) : State :=
  match s.slot k with
  | none => s
  | some o =>
    let s := if o.action.target.isSome then
        s.changeValve o.valve .orderDone fun x => { x with travelFault := false }
      else s
    s.endOrder k .done

/-! ## Reports (R60, R61, R66) -/

/-- One valve entry of a report, for the valve its channel carries (R61). -/
structure ValveReading where
  valve : Nat
  openLimit : Bool
  closedLimit : Bool
  localSwitch : Bool
deriving DecidableEq, Repr

/-- The record after the limits of an entry (R60). -/
def ValveLive.fromLimits (x : ValveLive) (openLimit closedLimit : Bool) : ValveLive :=
  match openLimit, closedLimit with
  | true, false => { x with position := .opened, settled := .opened, limitFault := false }
  | false, true => { x with position := .closed, settled := .closed, limitFault := false }
  | false, false => { x with position := .travel, limitFault := false }
  | true, true => { x with limitFault := true }

/-- Step 2 of R61: a live OPEN or CLOSE order in WAITING or MOVING whose target is reached ends DONE. -/
def State.judgeTarget (s : State) (v : Nat) : State :=
  match s.vou.valves.get v, s.liveOrder v with
  | some x, some o =>
    match x.slot with
    | some k => if o.stage ≠ .sent ∧ o.action.reached x.position then s.endDone k else s
    | none => s
  | _, _ => s

/-- The authority a local switch gives, with the cause of the change (the table of R66). -/
def Authority.fromSwitch : Authority → Bool → Option (Authority × AuthorityCause)
  | .remote, true => some (.crew, .switchOn)
  | .crew, false => some (.remote, .switchOff)
  | .recallPending, false => some (.remote, .recallAnswered)
  | _, _ => none

/-- Step 3 of R61: the authority from the local switch (R66). -/
def State.judgeSwitch (s : State) (v : Nat) (on : Bool) : State :=
  match (s.vou.valves.get v).bind (·.authority) with
  | none => s
  | some a =>
    match a.fromSwitch on with
    | none => s
    | some c => s.changeAuthority v c.2 c.1

/-- What step 4 of R61 ends an order in MOVING with, by its action and the local switch. -/
def Action.switchOutcome : Action → Bool → Option OrderOutcome
  | .close, true => some .interruptedLocal
  | .opening, true => some .interruptedLocal
  | .recall, false => some .done
  | .releaseLocal, true => some .done
  | _, _ => none

/-- Step 4 of R61: the local switch is judged for a live order in MOVING. -/
def State.judgeMoving (s : State) (v : Nat) (on : Bool) : State :=
  match (s.vou.valves.get v).bind (·.slot), s.liveOrder v with
  | some k, some o =>
    if o.stage = .moving then
      match o.action.switchOutcome on with
      | none => s
      | some outcome => s.endOrder k outcome
    else s
  | _, _ => s

/-- One entry of a delivery (R61). A MONITORED valve goes through step 1 only. -/
def State.deliverReading (s : State) (r : ValveReading) : State :=
  match s.ms.valves.get r.valve with
  | none => s
  | some rec =>
    match rec.actuation with
    | .manual => s
    | .monitored => s.changeValve r.valve .report fun x => x.fromLimits r.openLimit r.closedLimit
    | .remote =>
      let s := s.changeValve r.valve .report fun x => x.fromLimits r.openLimit r.closedLimit
      ((s.judgeTarget r.valve).judgeSwitch r.valve r.localSwitch).judgeMoving r.valve r.localSwitch

/-- A delivery of valve entries, which stand in ascending valve index (R61). -/
def State.deliverReadings (s : State) (rs : List ValveReading) : State := rs.foldl State.deliverReading s

/-! ## An outstation enters LOST (R62, R85) -/

/-- The waiting-list entries for valves of an outstation end REFUSED with code LINK, oldest first (R85). All of them leave
the list first and each is then delivered and posted, also where an earlier one has taken its context out of EXECUTING: R85
does not say which of its cases holds for such an entry (DESIGN CHOICE, log entry 17). -/
def State.dropLostWaiting (s : State) (valves : List Nat) : State :=
  let gone := s.vou.waiting.filter fun e => valves.contains e.valve
  let s := s.setWaiting (s.vou.waiting.filter fun e => !valves.contains e.valve)
  gone.foldl (fun s e => (s.postUnslotted e.context e.valve e.action (.refused .link)).deliverOutcome e.context e.valve
    e.action (.refused .link)) s

/-- One valve of an outstation that enters LOST (R62). `own` is the slot of the transaction that has just ended,
whose order its handover ends. -/
def State.loseValve (s : State) (own : Option Nat) (v : Nat) : State :=
  let s := s.changeValve v .stationLost fun x => { x with position := .unknown }
  match (s.vou.valves.get v).bind (·.slot) with
  | none => s
  | some k => if own = some k ∧ s.busySlot k then s else s.endOrder k .linkLost

/-- The Valve and Order Unit takes an outstation's entry into LOST (R62, R85). Each valve's change reaches the Model Engine as it
is made: an IDLE engine starts a trace at the first, and the others set its rerun flag (DESIGN CHOICE, log entry 27). -/
def State.loseValves (s : State) (st : Nat) (own : Option Nat) : State :=
  let valves := rising ((s.ms.valveMapOf st).map (·.2))
  valves.foldl (fun s v => s.loseValve own v) (s.dropLostWaiting valves)

/-! ## The end of an order transaction (R72 to R77) -/

/-- The result of an order transaction (R27). -/
inductive TransactionResult | accept | rejectLocal | rejectFault | busy | noReply
deriving DecidableEq, Repr

/-- Change the order in a slot. -/
def State.modSlot (s : State) (k : Nat) (f : Order → Order) : State := s.setSlot k ((s.slot k).map f)

/-- The slot enters MOVING and its channel starts, retriggerable, its gate closed if the outstation is DEGRADED
(R73, R33, R67, R176). -/
def State.startMoving (s : State) (k d : Nat) (health : Health) : State :=
  (s.modSlot k fun o => { o with stage := .moving }).startChannel (Config.orderChannel + k) d .single
    (health != .degraded)

/-- An ACCEPT, judged by action (R73, R76, R77). -/
def State.acceptOrder (s : State) (k : Nat) (o : Order) (health : Health) : State :=
  match s.ms.valves.get o.valve, s.vou.valves.get o.valve with
  | some rec, some x =>
    match o.action with
    | .recall =>
      if x.authority = some .remote then s.endDone k
      else (s.changeAuthority o.valve .recallSent .recallPending).startMoving k rec.recallTime health
    | .releaseLocal =>
      if x.authority = some .crew then s.endDone k else s.startMoving k rec.recallTime health
    | a => if a.reached x.position then s.endDone k else s.startMoving k rec.travelTime health
  | _, _ => s

/-- The retry limit of the line of a valve's outstation (R9). -/
def State.retryLimitOf (s : State) (v : Nat) : Nat :=
  match ((s.ms.valves.get v).bind (·.station)).bind s.ms.stations.get with
  | none => LineRec.default.retryLimit
  | some st => (s.ms.lineOf st.line).retryLimit

/-- A BUSY answer or a no reply (R74). -/
def State.retryOrder (s : State) (k : Nat) (o : Order) (busy : Bool) : State :=
  let attempts := min (o.attempts + 1) 7
  let s := s.modSlot k fun x => { x with attempts := attempts }
  if o.oneShot then s.endOrder k (if busy then .failedBusy else .noReply)
  else if !busy && s.retryLimitOf o.valve ≤ attempts then s.endOrder k .noReply
  else if !s.inSupervise then s.endOrder k .abortedMode
  else s.modSlot k fun x => { x with stage := .waiting }

/-- The end of an order transaction is judged (R72). -/
def State.judgeTransaction (s : State) (k : Nat) (r : TransactionResult) (health : Health) : State :=
  match s.slot k with
  | none => s
  | some o =>
    if health = .lost then s.endOrder k .linkLost
    else if o.abortRequested then s.endOrder k (if r = .accept then .abortedLate else .aborted)
    else match r with
      | .accept => s.acceptOrder k o health
      | .rejectLocal =>
        let s := if (s.vou.valves.get o.valve).bind (·.authority) = some .crew then s
          else s.changeAuthority o.valve .rejectLocal .crew
        s.endOrder k .rejectedLocal
      | .rejectFault =>
        (s.changeValve o.valve .orderAnswer fun x => { x with limitFault := true }).endOrder k .rejectedFault
      | .busy => s.retryOrder k o true
      | .noReply => s.retryOrder k o false

/-- An expiry of an order slot's channel (R75 to R77). -/
def State.orderExpiry (s : State) (k : Nat) : State :=
  match s.slot k with
  | none => s
  | some o =>
    if o.stage = .moving then
      if o.action.target.isSome then
        (s.changeValve o.valve .travelTimeout fun x => { x with travelFault := true }).endOrder k .travelTimeout
      else s.endOrder k .recallUnanswered
    else s

/-! ## Host orders (R68 to R70) -/

/-- The authority an action needs (R68, R69). -/
def Action.needs : Action → Authority
  | .recall => .crew
  | _ => .remote

/-- Steps 4 to 11 of R68, with the differences of R69 for RECALL and RELEASE_LOCAL, and the taking of R70. -/
def State.takeHostOrder (s : State) (v : Nat) (a : Action) (priority : Nat) (oneShot : Bool) : Answered :=
  match s.ms.valves.get v, s.vou.valves.get v with
  | some rec, some x =>
    if rec.actuation ≠ .remote then refuse s .state
    else if a.target.isSome && x.inhibit then refuse s .inhibited
    else if x.slot.isSome || s.waits v then refuse s .state
    else if x.authority ≠ some a.needs then refuse s .authority
    else if s.stationLost rec then refuse s .link
    else if a.reached x.position then
      (s.post .operations (.orderOutcome none v a .host .doneAlready 0), .ok, .doneAlready)
    else match s.freeSlot with
      | none => refuse s .full
      | some k => (s.takeSlot k v a priority .host oneShot, .accepted, .slot k)
  | _, _ => refuse s .notFound

/-- Steps 1 to 3 of R68 for a request with the given action, where its number names one. -/
def State.hostOrder (s : State) (v : Nat) (action : Option Action) (priority oneShot : Nat) : Answered :=
  if !s.inSupervise then refuse s .mode
  else if s.vou.hold then refuse s .hold
  else match action, flagOf oneShot with
    | some a, some os =>
      if Config.valves ≤ v ∨ 3 < priority then refuse s .range else s.takeHostOrder v a priority os
    | _, _ => refuse s .range

/-- The action of an ORDER by its number: CLOSE, OPEN (R67, R68, R202). -/
def orderActionOf : Nat → Option Action
  | 1 => some .close
  | 2 => some .opening
  | _ => none

/-! ## Entries and flags (R63, R65) -/

/-- The position of a VALVE_ENTRY by its number: OPEN, CLOSED (R63, R202). -/
def entryPositionOf : Nat → Option Settled
  | 1 => some .opened
  | 2 => some .closed
  | _ => none

/-- A settled position as a position. -/
def Settled.position : Settled → Position
  | .opened => .opened
  | .closed => .closed

/-- VALVE_ENTRY (R63). -/
def State.valveEntryRequest (s : State) (v position : Nat) : Answered :=
  if s.inConfigure then refuse s .mode
  else match entryPositionOf position with
    | none => refuse s .range
    | some p =>
      if Config.valves ≤ v then refuse s .range
      else match s.ms.valves.get v with
        | none => refuse s .notFound
        | some rec =>
          if rec.actuation ≠ .manual then refuse s .state
          else (s.changeValve v .entry fun x => { x with position := p.position, settled := p }, .ok, .empty)

/-- INHIBIT (R65). Each flag that changes is a valve change of its own. The flags of the reply, and their order, are the
model's choice (DESIGN CHOICE, log entry 28). -/
def State.inhibitRequest (s : State) (v inhibit clearFault : Nat) : Answered :=
  if s.inConfigure then refuse s .mode
  else match flagOf inhibit, flagOf clearFault with
    | some i, some c =>
      if Config.valves ≤ v then refuse s .range
      else match s.vou.valves.get v with
        | none => refuse s .notFound
        | some x =>
          let s := s.changeValve v .host fun y => { y with inhibit := i }
          let s := if c then s.changeValve v .host fun y => { y with travelFault := false } else s
          (s, .ok, .flags i x.limitFault (x.travelFault && !c))
    | _, _ => refuse s .range

/-! ## Abort, hold and changes of mode (R79 to R82) -/

/-- ABORT (R79). -/
def State.abortRequest (s : State) (k : Nat) : Answered :=
  if s.inConfigure then refuse s .mode
  else if 12 ≤ k then refuse s .range
  else match s.slot k with
    | none => refuse s .state
    | some o =>
      match o.stage with
      | .waiting => (s.endOrder k .aborted, .ok, .empty)
      | .sent => (s.modSlot k fun x => { x with abortRequested := true }, .accepted, .empty)
      | .moving => (s.endOrder k .abortedMoving, .ok, .empty)

/-- Every entry of the context waiting list is removed, and each outcome is delivered, oldest first (R80, R82). -/
def State.endWaitingList (s : State) (o : OrderOutcome) : State :=
  s.vou.waiting.foldl
    (fun s e => (s.postUnslotted e.context e.valve e.action o).deliverOutcome e.context e.valve e.action o)
    (s.setWaiting [])

/-- A slot in WAITING ends with an outcome. -/
def State.endIfWaiting (s : State) (o : OrderOutcome) (k : Nat) : State :=
  match s.slot k with
  | none => s
  | some x => if x.stage = .waiting then s.endOrder k o else s

/-- The waiting list empties, then every slot in WAITING ends, in ascending slot index (R80, R82). -/
def State.endWaiting (s : State) (o : OrderOutcome) : State :=
  (List.range 12).foldl (fun s k => s.endIfWaiting o k) (s.endWaitingList o)

/-- A slot in SENT has its abort-requested flag set (R80). -/
def State.abortSent (s : State) (k : Nat) : State :=
  s.modSlot k fun o => if o.stage = .sent then { o with abortRequested := true } else o

/-- HOLD (R80). -/
def State.holdRequest (s : State) : Answered :=
  if s.inConfigure then refuse s .mode
  else
    let s := (s.withVou { s.vou with hold := true }).endWaiting .abortedHold
    ((List.range 12).foldl State.abortSent s, .ok, .empty)

/-- RELEASE_HOLD (R81). -/
def State.releaseHoldRequest (s : State) : Answered :=
  if s.inConfigure then refuse s .mode else (s.withVou { s.vou with hold := false }, .ok, .empty)

/-- Leaving CONFIGURE: a live record for every loaded valve (R59). -/
def ValveRec.initial (rec : ValveRec) : ValveLive :=
  { position := match rec.actuation with
      | .manual => rec.normal.position
      | _ => .unknown
    settled := rec.normal
    authority := match rec.actuation with
      | .remote => some .remote
      | _ => none
    limitFault := false, travelFault := false, inhibit := false, slot := none }

/-- Leaving CONFIGURE (R59, R82). -/
def State.startValves (s : State) : State :=
  s.withVou { OrderUnit.reset with valves := s.ms.valves.mapRows fun _ rec => rec.initial }

/-- Entry into CONFIGURE (R59, R82). -/
def State.stopValves (s : State) : State := s.withVou .reset

/-! ## Reading the orders (R86) -/

/-- A slot as READ_ORDERS reports it. -/
def State.slotReport (s : State) (k : Nat) : SlotReport :=
  let ch := s.channel (Config.orderChannel + k)
  { order := s.slot k
    channel := match s.slot k with
      | none => none
      | some o => if o.stage = .moving then some (ch.remaining, ch.gateOpen) else none }

/-- The waiting list as READ_ORDERS reports it for one context. -/
def State.waitReport (s : State) (c : Nat) : WaitReport :=
  let own := s.vou.waiting.filter fun e => e.context == c
  { entries := own.length, oldest := own.head?.map (·.valve) }

/-- READ_ORDERS (R86). -/
def State.readOrders (s : State) : Answered :=
  (s, .ok, .orders ((List.range 12).map s.slotReport) s.vou.hold s.vou.waiting.length
    ((List.range 8).map s.waitReport))

end Sys2Proof.Machine
end

