-- ==== Sys2Proof/Machine/Frames.lean ====
section
/-! DEFINITION. Bytes on the lines (section 11.10): numbers, the CRC-16, the frames of the Control Room Link and its
receiver, the field frames and their judgement (R24), and the encoding of notices. -/
namespace Sys2Proof.Machine

/-! ## Numbers -/

/-- A number in `width` bytes, most significant first. -/
def bytesOf : Nat → Nat → List Byte
  | 0, _ => []
  | width + 1, n => bytesOf width (n / 256) ++ [.ofNat 8 n]

/-- The number that bytes give, most significant first. -/
def numberOf (bytes : List Byte) : Nat := bytes.foldl (fun n b => n * 256 + b.toNat) 0

/-- A signed number in `width` bytes, two's complement. -/
def signedBytes (width : Nat) (z : Int) : List Byte := bytesOf width (z % (256 ^ width : Nat)).toNat

/-- The signed number that a number of `width` bytes stands for. -/
def signedOf (width n : Nat) : Int := if n < 256 ^ width / 2 then n else (n : Int) - (256 ^ width : Nat)

/-! ## CRC-16 -/

/-- One bit of the CRC: shift left, and subtract the generator 0x1021 when a one leaves. -/
def crcBit (crc : BitVec 16) : BitVec 16 := if crc.msb then (crc <<< 1) ^^^ 0x1021#16 else crc <<< 1

/-- One byte of the CRC, most significant bit first. -/
def crcByte (crc : BitVec 16) (b : Byte) : BitVec 16 :=
  crcBit (crcBit (crcBit (crcBit (crcBit (crcBit (crcBit (crcBit (crc ^^^ (b.zeroExtend 16 <<< 8)))))))))

/-- The CRC-16 over some bytes, from the initial value 0xFFFF, with no final inversion. -/
def crc16 (bytes : List Byte) : BitVec 16 := bytes.foldl crcByte 0xFFFF#16

/-- Some bytes followed by their CRC. -/
def withCrc (bytes : List Byte) : List Byte := bytes ++ bytesOf 2 (crc16 bytes).toNat

/-! ## The frames of the Control Room Link (section 11.2) -/

/-- The start byte of a link frame. -/
def startByte : Byte := 0xA5#8

/-- A link frame. -/
def linkFrame (kind tag : Byte) (body : List Byte) : List Byte :=
  startByte :: withCrc (bytesOf 2 body.length ++ kind :: tag :: body)

/-- What the receiver does with the bytes it has assembled (R191). -/
inductive Assembly
  | more
  | discard
  | complete (request : Request)
deriving DecidableEq, Repr

/-- Judge the bytes assembled after the start byte (R191). -/
def assembly (bytes : List Byte) : Assembly :=
  if bytes.length < 2 then .more
  else
    let size := numberOf (bytes.take 2)
    if Config.bodyBytes < size then .discard
    else if bytes.length < size + 6 then .more
    else if numberOf (bytes.drop (size + 4)) = (crc16 (bytes.take (size + 4))).toNat then
      .complete ⟨bytes.getD 2 0, bytes.getD 3 0, (bytes.drop 4).take size⟩
    else .discard

/-- A discard adds 1 to the link error count, which saturates (R191). -/
def Link.countError (l : Link) : Link :=
  { l with linkErrors := if l.linkErrors = 4294967295 then 4294967295 else l.linkErrors + 1 }

/-- A complete frame joins the request list, or is discarded while the list holds four (R192). -/
def Link.join (l : Link) (r : Request) : Link :=
  if l.requests.length < Config.requestList then { l with requests := l.requests ++ [r] } else l.countError

/-- One byte arrives at the receiver (R191). -/
def Link.receive (l : Link) (b : Byte) : Link :=
  match l.receiver with
  | none => if b = startByte then { l with receiver := some [] } else l
  | some bytes =>
    match assembly (bytes ++ [b]) with
    | .more => { l with receiver := some (bytes ++ [b]) }
    | .discard => { l with receiver := none }.countError
    | .complete r => { l with receiver := none }.join r

/-- The gap of R191 ends: a frame being assembled is discarded. -/
def Link.gap (l : Link) : Link :=
  match l.receiver with
  | none => l
  | some _ => { l with receiver := none }.countError

/-! ## Field frames (section 2.3) -/

/-- A field frame. -/
def fieldFrame (address : Nat) (kind : Byte) (body : List Byte) : List Byte :=
  withCrc (.ofNat 8 address :: kind :: .ofNat 8 body.length :: body)

/-- The number of an order action on a field line. -/
def Action.code : Action → Nat
  | .close => 1
  | .opening => 2
  | .recall => 3
  | .releaseLocal => 4

/-- A SCAN (R21). -/
def scanFrame (address : Nat) : List Byte := fieldFrame address 0x01#8 []

/-- A VALVE ORDER (R22). -/
def orderFrame (address channel : Nat) (a : Action) : List Byte :=
  fieldFrame address 0x02#8 [.ofNat 8 channel, .ofNat 8 a.code]

/-- The limits and local switch of a valve entry: bits 0, 1 and 2, the other bits ignored. -/
structure ValveBits where
  openLimit : Bool
  closedLimit : Bool
  localSwitch : Bool
deriving DecidableEq, Repr

/-- The valve entry of a byte. -/
def ValveBits.ofByte (b : Byte) : ValveBits := ⟨b.getLsbD 0, b.getLsbD 1, b.getLsbD 2⟩

/-- The contents of a STATION REPORT (R21): eight counts and eight valve entries, channel 0 first. -/
structure Report where
  counts : List Nat
  valves : List ValveBits
deriving DecidableEq, Repr

/-- The raw counts of a report body. -/
def countsOf : List Byte → List Nat
  | a :: b :: rest => numberOf [a, b] :: countsOf rest
  | _ => []

/-- The report of a 24-byte body. -/
def Report.ofBody (body : List Byte) : Report := ⟨countsOf (body.take 16), (body.drop 16).map ValveBits.ofByte⟩

/-- The answer of an ORDER ANSWER by its number (R22). -/
def answerOf : Nat → Option TransactionResult
  | 1 => some .accept
  | 2 => some .rejectLocal
  | 3 => some .rejectFault
  | 4 => some .busy
  | _ => none

/-- What a controller expects: a STATION REPORT, or the ORDER ANSWER for a valve channel. -/
inductive Expected
  | report
  | answer (channel : Nat)
deriving DecidableEq, Repr

/-- The judgement of a received frame (R23, R24): not yet received in full, bad, or valid. -/
inductive Judgement
  | incomplete
  | bad
  | report (r : Report)
  | answer (a : TransactionResult)
deriving DecidableEq, Repr

/-- The longest body an outstation sends, that of a STATION REPORT (R24). -/
def longestField : Nat := 24

/-- Judge a complete frame whose CRC and address are right (R24): its kind, body length and contents. -/
def judgeBody (e : Expected) (kind : Byte) (body : List Byte) : Judgement :=
  match e with
  | .report => if kind = 0x81#8 ∧ body.length = longestField then .report (.ofBody body) else .bad
  | .answer channel =>
    match body with
    | [c, a] =>
      match answerOf a.toNat with
      | some r => if kind = 0x82#8 ∧ c.toNat = channel then .answer r else .bad
      | none => .bad
    | _ => .bad

/-- Judge the bytes received in a reply window (R24). Later bytes than the frame's are discarded. -/
def judgeField (address : Nat) (e : Expected) (bytes : List Byte) : Judgement :=
  match bytes with
  | a :: kind :: size :: rest =>
    if longestField < size.toNat then .bad
    else if rest.length < size.toNat + 2 then .incomplete
    else
      let body := rest.take size.toNat
      if numberOf ((rest.drop size.toNat).take 2) = (crc16 (a :: kind :: size :: body)).toNat ∧ a.toNat = address then
        judgeBody e kind body
      else .bad
  | _ => .incomplete

/-! ## Numbers of named values (log entry 14) -/

/-- A flag as a byte. -/
def flagByte (b : Bool) : List Byte := [if b then 1 else 0]

/-- An optional field of a notice or reply: one byte, 0 when absent and 1 when present, and its bytes when present. -/
def optionalBytes {α : Type} (f : α → List Byte) : Option α → List Byte
  | none => [0]
  | some a => 1 :: f a

/-- A named value's byte: its place in the manual's list, counting from 1. -/
def nameByte (place : Nat) : List Byte := bytesOf 1 (place + 1)

/-- A list after its one-byte count. -/
def countedBytes {α : Type} (f : α → List Byte) (l : List α) : List Byte := bytesOf 1 l.length ++ l.flatMap f

/-- The number of a class: SAFETY 1, OPERATIONS 2, SERVICE 3. -/
def NoticeClass.code : NoticeClass → Nat
  | .safety => 1
  | .operations => 2
  | .service => 3

/-- The value byte of a result code (section 11.3). -/
def ResultCode.value : ResultCode → Nat
  | .ok => 0x00
  | .accepted => 0x01
  | .unknownKind => 0x10
  | .length => 0x11
  | .range => 0x12
  | .mode => 0x13
  | .notFound => 0x14
  | .full => 0x15
  | .state => 0x16
  | .authority => 0x17
  | .inhibited => 0x18
  | .link => 0x19
  | .hold => 0x1A
  | .duplicate => 0x1B
  | .model => 0x1C

/-! ## Notices (section 10.6, notice header of section 11.10) -/

/-- The state of a point as a byte. -/
def PointState.place : PointState → Nat
  | .disabled => 0
  | .awaiting => 1
  | .valid => 2
  | .stale => 3
  | .fault _ => 4

/-- The fault sub-kind of a point state, present in FAULT only. -/
def PointState.sub : PointState → Option RangeFault
  | .fault r => some r
  | _ => none

/-- The outcome of an order as a byte, in the order of section 4.8. -/
def OrderOutcome.place : OrderOutcome → Nat
  | .done => 0
  | .doneAlready => 1
  | .travelTimeout => 2
  | .interruptedLocal => 3
  | .rejectedLocal => 4
  | .rejectedFault => 5
  | .failedBusy => 6
  | .noReply => 7
  | .linkLost => 8
  | .recallUnanswered => 9
  | .aborted => 10
  | .abortedLate => 11
  | .abortedMoving => 12
  | .abortedHold => 13
  | .abortedMode => 14
  | .refused _ => 15

/-- The refusal code of an outcome, for REFUSED. -/
def OrderOutcome.code : OrderOutcome → Option ResultCode
  | .refused c => some c
  | _ => none

/-- A host or context origin. Section 11.10 gives no bytes for a field that holds an index or a named value; the model
sends one byte 0 for HOST, and 1 with the index for a context, after R202's rule for requests (DEDUCED, log entry 14). -/
def Origin.bytes : Origin → List Byte
  | .host => [0]
  | .context c => 1 :: bytesOf 1 c

/-- The sums of a plan, each in the bytes that hold its range (R99). -/
def PlanSums.bytes (x : PlanSums) : List Byte :=
  bytesOf 3 x.zonePoints ++ bytesOf 2 x.zoneCritical ++ bytesOf 4 x.collateralPoints ++ bytesOf 3 x.collateralCritical

/-- The reason and related index of a failed search. -/
def SearchFailure.bytes : SearchFailure → List Byte
  | .unboundedFeed v => nameByte 0 ++ 1 :: bytesOf 2 v
  | .overlap c => nameByte 1 ++ 1 :: bytesOf 2 c
  | .tooLarge => nameByte 2 ++ [0]

/-- The reason and related index of PLAN_FAILED: the reasons of R134, then those of R136. -/
def PlanFailure.bytes : PlanFailure → List Byte
  | .search f => f.bytes
  | .mode => nameByte 3 ++ [0]
  | .seedTaken c => nameByte 4 ++ 1 :: bytesOf 2 c
  | .noContext => nameByte 5 ++ [0]

/-- A 32-bit time. -/
def timeBytes (t : Time) : List Byte := bytesOf 4 t.toNat

/-- A class as a byte. -/
def classByte (c : NoticeClass) : List Byte := bytesOf 1 c.code

/-- The source of an incident, without its point. -/
def IncidentSource.place : IncidentSource → Nat
  | .call => 0
  | .telemetry _ => 1

/-- The point of a telemetry source. -/
def IncidentSource.point : IncidentSource → Option Nat
  | .call => none
  | .telemetry p => some p

/-- The final figures of an outage record and its created time, which a record that closes or is discarded always has
(R163, R164, R169, R173): it is no optional field. -/
def OutageFigures.bytes (x : OutageFigures) : List Byte :=
  bytesOf 8 x.affected ++ bytesOf 8 x.relit ++ bytesOf 4 x.peakOff ++ bytesOf 2 x.noGas ++ bytesOf 4 x.customerMinutes
    ++ timeBytes (x.created.getD 0)

/-- The kind of a notice: its row number in the table of section 10.6. -/
def NoticeBody.kind : NoticeBody → Nat
  | .stationHealth .. => 1
  | .statsHalf .. => 2
  | .pointState .. => 3
  | .zoneChange .. => 4
  | .fall .. => 5
  | .valveState .. => 6
  | .authorityChange .. => 7
  | .orderOutcome .. => 8
  | .incidentOpened .. => 9
  | .callAttached .. => 10
  | .incidentUpgraded .. => 11
  | .incidentDowngraded .. => 12
  | .escalation .. => 13
  | .incidentClosed .. => 14
  | .incidentTableFull .. => 15
  | .planReady .. => 16
  | .planFailed .. => 17
  | .isolationState .. => 18
  | .segmentState .. => 19
  | .outageOpened .. => 20
  | .outageMerged .. => 21
  | .outageProgress .. => 22
  | .outageClosed .. => 23
  | .outageDiscarded .. => 24
  | .modeChanged .. => 25
  | .overflow .. => 26

/-- The subject and detail of a notice, field by field in the order of the table of section 10.6. A time that a notice of
its kind always carries is no optional field: the closed time is optional in OUTAGE_DISCARDED alone, where the reason
CONFIGURE has none (R163, R169, R173). The two flags of ISOLATION_STATE are present together, at CONFIRMED (R147, R148), and
section 11.10 does not say whether they are one field or two: the model sends one presence byte for both (DEDUCED,
log entry 14). -/
def NoticeBody.bytes : NoticeBody → List Byte
  | .stationHealth st line addr old new n cause =>
    bytesOf 1 st ++ bytesOf 1 line ++ bytesOf 1 addr ++ nameByte old.ctorIdx ++ nameByte new.ctorIdx ++ bytesOf 1 n
      ++ nameByte cause.ctorIdx
  | .statsHalf st c => bytesOf 1 st ++ nameByte c.ctorIdx ++ bytesOf 2 32768
  | .pointState p seg old new cause f z =>
    bytesOf 1 p ++ bytesOf 2 seg ++ nameByte old.place ++ nameByte new.place
      ++ optionalBytes (fun r : RangeFault => nameByte r.ctorIdx) new.sub ++ nameByte cause.ctorIdx
      ++ optionalBytes (bytesOf 3) f ++ optionalBytes (fun z : Zone => nameByte z.ctorIdx) z
  | .zoneChange p seg old new f r e =>
    bytesOf 1 p ++ bytesOf 2 seg ++ nameByte old.ctorIdx ++ nameByte new.ctorIdx ++ bytesOf 3 f
      ++ optionalBytes (signedBytes 3) r ++ flagByte e
  | .fall p seg f r n => bytesOf 1 p ++ bytesOf 2 seg ++ bytesOf 3 f ++ signedBytes 3 r ++ bytesOf 1 n
  | .valveState v old new settled lf tf cause =>
    bytesOf 2 v ++ nameByte old.ctorIdx ++ nameByte new.ctorIdx ++ nameByte settled.ctorIdx ++ flagByte lf
      ++ flagByte tf ++ nameByte cause.ctorIdx
  | .authorityChange v old new cause =>
    bytesOf 2 v ++ nameByte old.ctorIdx ++ nameByte new.ctorIdx ++ nameByte cause.ctorIdx
  | .orderOutcome k v a o out n =>
    optionalBytes (bytesOf 1) k ++ bytesOf 2 v ++ nameByte a.ctorIdx ++ o.bytes ++ nameByte out.place
      ++ optionalBytes (fun c : ResultCode => bytesOf 1 c.value) out.code ++ bytesOf 1 n
  | .incidentOpened n cls src g u key seg linked ref =>
    bytesOf 2 n ++ nameByte cls.ctorIdx ++ nameByte src.place ++ nameByte g.ctorIdx ++ flagByte u
      ++ bytesOf 3 key.toNat ++ optionalBytes (bytesOf 2) seg ++ optionalBytes (bytesOf 2) linked
      ++ optionalBytes (fun r : BitVec 32 => bytesOf 4 r.toNat) ref ++ optionalBytes (bytesOf 1) src.point
  | .callAttached n ref kind calls g u =>
    bytesOf 2 n ++ bytesOf 4 ref.toNat ++ nameByte kind.ctorIdx ++ bytesOf 1 calls ++ nameByte g.ctorIdx ++ flagByte u
  | .incidentUpgraded n old new cause u rem =>
    bytesOf 2 n ++ nameByte old.ctorIdx ++ nameByte new.ctorIdx ++ nameByte cause.ctorIdx ++ flagByte u
      ++ optionalBytes (bytesOf 3) rem
  | .incidentDowngraded n old new => bytesOf 2 n ++ nameByte old.ctorIdx ++ nameByte new.ctorIdx
  | .escalation n g st stage calls t =>
    bytesOf 2 n ++ nameByte g.ctorIdx ++ nameByte st.ctorIdx ++ bytesOf 1 stage ++ bytesOf 1 calls ++ timeBytes t
  | .incidentClosed n cls src st g calls stage t =>
    bytesOf 2 n ++ nameByte cls.ctorIdx ++ nameByte src.place ++ nameByte st.ctorIdx ++ nameByte g.ctorIdx
      ++ bytesOf 1 calls ++ bytesOf 1 stage ++ timeBytes t
  | .incidentTableFull p seg => bytesOf 1 p ++ bytesOf 2 seg
  | .planReady c n rev z b crew coll sums =>
    bytesOf 1 c ++ bytesOf 2 n ++ bytesOf 2 rev ++ bytesOf 1 z ++ bytesOf 1 b ++ bytesOf 1 crew ++ bytesOf 2 coll
      ++ sums.bytes
  | .planFailed c n r => optionalBytes (bytesOf 1) c ++ bytesOf 2 n ++ r.bytes
  | .isolationState c n old new rev sus br fl =>
    bytesOf 1 c ++ bytesOf 2 n ++ nameByte old.ctorIdx ++ nameByte new.ctorIdx ++ bytesOf 2 rev
      ++ optionalBytes (countedBytes (bytesOf 2)) sus ++ optionalBytes (bytesOf 2) br
      ++ optionalBytes (fun x : Bool × Bool => flagByte x.1 ++ flagByte x.2) fl
  | .segmentState seg old new cause out fed cond mem cap =>
    bytesOf 2 seg ++ nameByte old.ctorIdx ++ nameByte new.ctorIdx
      ++ optionalBytes (fun c : OutageCause => nameByte c.ctorIdx) cause ++ optionalBytes (bytesOf 1) out
      ++ flagByte fed ++ nameByte cond.ctorIdx ++ optionalBytes (bytesOf 1) mem ++ optionalBytes flagByte cap
  | .outageOpened n seg cause aff crit =>
    bytesOf 1 n ++ bytesOf 2 seg ++ nameByte cause.ctorIdx ++ bytesOf 8 aff ++ bytesOf 3 crit
  | .outageMerged n a moved aff off crit =>
    bytesOf 1 n ++ bytesOf 1 a ++ bytesOf 2 moved ++ bytesOf 8 aff ++ bytesOf 4 off ++ bytesOf 3 crit
  | .outageProgress n listed rest off crit relit gas cm =>
    bytesOf 1 n ++ bytesOf 2 listed ++ bytesOf 2 rest ++ bytesOf 4 off ++ bytesOf 3 crit ++ bytesOf 8 relit
      ++ bytesOf 2 gas ++ bytesOf 4 cm
  | .outageClosed n fig cap => bytesOf 1 n ++ fig.bytes ++ timeBytes (fig.closedAt.getD 0) ++ flagByte cap
  | .outageDiscarded n r fig =>
    bytesOf 1 n ++ nameByte r.ctorIdx ++ fig.bytes ++ optionalBytes timeBytes fig.closedAt
  | .modeChanged old new => nameByte old.ctorIdx ++ nameByte new.ctorIdx
  | .overflow c n a b => classByte c ++ bytesOf 4 n ++ timeBytes a ++ timeBytes b

/-- The length of an encoded notice, its 11-byte header included. -/
def Notice.size (n : Notice) : Nat := 11 + n.body.bytes.length

/-- An encoded notice: the header, then the subject and detail. -/
def Notice.bytes (n : Notice) : List Byte :=
  bytesOf 1 n.size ++ classByte n.cls ++ bytesOf 1 n.body.kind ++ bytesOf 4 n.serial.toNat ++ timeBytes n.time
    ++ n.body.bytes

end Sys2Proof.Machine
end

