-- ==== Sys2Proof/Machine/Incidents.lean ====
section
/-! DEFINITION. The Incident Table (chapter 6): calls, coalescing, grades, telemetry incidents, deadlines and the
states of an incident. -/
namespace Sys2Proof.Machine

/-! ## Grades, kinds and matching (R103, R105, R106, R110) -/

/-- The place of a grade in urgency: 0 is the most urgent (section 5.6). -/
def Grade.rank : Grade → Nat
  | .p1 => 0
  | .p2 => 1
  | .p3 => 2

/-- The more urgent of two grades. -/
def Grade.highest (a b : Grade) : Grade := if a.rank ≤ b.rank then a else b

/-- The grade of a call kind (R105). -/
def CallKind.grade : CallKind → Grade
  | .outsideOdour => .p3
  | .insideOdour => .p2
  | .escape => .p1
  | .fireOrBlast => .p1
  | .noSupply => .p3

/-- The class of incident a call kind belongs to (R105). -/
def CallKind.cls : CallKind → IncidentClass
  | .noSupply => .supply
  | _ => .leak

/-- The source of an incident is TELEMETRY. -/
def Incident.telemetry (i : Incident) : Bool :=
  match i.source with
  | .call => false
  | .telemetry _ => true

/-- The grade an incident's floor and calls give it (R110); P1 for a telemetry incident with neither. -/
def Incident.computedGrade (i : Incident) : Grade :=
  let grades := i.floor.toList ++ i.calls.map (·.kind.grade)
  match grades with
  | [] => .p1
  | g :: rest => rest.foldl Grade.highest g

/-- Two keys match at a mask width: each cell number, with its low bits dropped, is the same (R106). -/
def keysMatch (w : Nat) (a b : Key) : Bool :=
  (a.extractLsb' 12 12 >>> w == b.extractLsb' 12 12 >>> w) && (a.extractLsb' 0 12 >>> w == b.extractLsb' 0 12 >>> w)

/-- A candidate matches a leak call (R106). -/
def Incident.matchesLeak (i : Incident) (call : CallRec) : Bool :=
  i.cls == .leak && keysMatch i.maskWidth call.key i.key
    && !(call.segment.isSome && i.segment.isSome && call.segment != i.segment)

/-- An incident matches a SUPPLY call (R116). -/
def Incident.matchesSupply (i : Incident) (call : CallRec) : Bool :=
  i.cls == .supply
    && match call.segment with
      | some _ => i.segment == call.segment
      | none => i.segment.isNone && keysMatch i.maskWidth call.key i.key

/-- An incident matches a call of its kind's class. -/
def Incident.matchesCall (i : Incident) (call : CallRec) : Bool :=
  match call.kind.cls with
  | .leak => i.matchesLeak call
  | .supply => i.matchesSupply call

/-! ## Automatic plans and upgrades (R111, R118, R123) -/

/-- The auto-plan condition (R123). -/
def State.autoPlanHolds (s : State) (i : Incident) : Bool :=
  i.cls == .leak && i.segment.isSome && i.context.isNone && (i.urgent || (i.grade == .p1 && s.it.autoPlan))

/-- Judge the auto-plan condition of an incident, and ask for a plan where it holds (R123). -/
def State.judgeAutoPlan (s : State) (serial : Nat) : State :=
  match s.incident serial with
  | none => s
  | some i =>
    match i.segment with
    | none => s
    | some seg => if s.autoPlanHolds i then s.autoPlan serial seg else s

/-- The deadline channel of an upgraded incident is adjusted by its state (R118). -/
def State.adjustDeadline (s : State) (slot : Nat) (p : GradeParams) : State :=
  match (s.channel slot).remaining, (s.channel slot).mode with
  | none, _ => s
  | some r, .single =>
    if actualDuration p.attendTime < r then (s.stopChannel slot).startChannel slot p.attendTime .single true else s
  | some r, .periodic =>
    if actualDuration p.reminder < r then (s.stopChannel slot).startChannel slot p.reminder .periodic true else s

/-- The class of a notice that goes to SAFETY for P1 and to OPERATIONS otherwise. -/
def Grade.noticeClass (g : Grade) : NoticeClass := if g = .p1 then .safety else .operations

/-- An incident is upgraded to a grade (R111). -/
def State.upgrade (s : State) (i : Incident) (g : Grade) (cause : UpgradeCause) : State :=
  let p := s.it.params.of g
  let s := (s.setIncident { i with grade := g, maskWidth := p.maskWidth }).adjustDeadline i.slot p
  let s := s.post g.noticeClass (.incidentUpgraded i.serial i.grade g cause i.urgent (s.channel i.slot).remaining)
  s.judgeAutoPlan i.serial

/-- The grade of an incident is recomputed (R110), with the effects of R111 or R112. -/
def State.recomputeGrade (s : State) (serial : Nat) (cause : UpgradeCause) : State :=
  match s.incident serial with
  | none => s
  | some i =>
    let g := i.computedGrade
    if g.rank < i.grade.rank then s.upgrade i g cause
    else if i.grade.rank < g.rank then
      (s.setIncident { i with grade := g }).post .operations (.incidentDowngraded serial i.grade g)
    else s

/-! ## Creation (R102, R109) -/

/-- A serial is held by an open incident. -/
def State.serialOpen (s : State) (serial : Nat) : Bool := (s.incident serial).isSome

/-- The serial after a serial, wrapping from 65,535 to 1 (R102). -/
def nextIncidentSerial (n : Nat) : Nat := if 65535 ≤ n then 1 else n + 1

/-- Advance the counter past the serials that open incidents hold; 49 steps always reach a free one (R102). -/
def State.freeSerial (s : State) : Nat → Nat → Nat
  | 0, n => n
  | fuel + 1, n => if s.serialOpen n then s.freeSerial fuel (nextIncidentSerial n) else n

/-- The lowest-indexed free incident slot (R101). -/
def State.freeIncidentSlot (s : State) : Option Nat :=
  (List.range Config.incidents).find? fun k => !s.it.incidents.any fun i => i.slot == k

/-- The fields a creating rule gives a new incident (R108, R116, R117). -/
structure NewIncident where
  cls : IncidentClass
  source : IncidentSource
  grade : Grade
  urgent : Bool
  key : Key
  segment : Option Nat
  calls : List CallRec
  linked : Option Nat
deriving DecidableEq, Repr

/-- The record of a new incident (R109 step 2). -/
def State.newIncident (s : State) (n : NewIncident) (slot serial : Nat) : Incident :=
  { slot := slot, serial := serial, cls := n.cls, source := n.source, state := .opened, grade := n.grade, floor := none,
    urgent := n.urgent, key := n.key, maskWidth := (s.it.params.of n.grade).maskWidth, segment := n.segment,
    calls := n.calls, linked := n.linked, context := none, stage := 0, created := s.now }

/-- The creation of an incident in a free slot (R109). The answer is its serial. The start is non-retriggerable (R118)
and finds the channel of a free slot STOPPED (R176), so its answer changes nothing here. -/
def State.createIncident (s : State) (n : NewIncident) (slot : Nat) : State × Nat :=
  let serial := s.freeSerial (Config.incidents + 1) s.it.nextSerial
  let i := s.newIncident n slot serial
  let s := s.withIt { s.it with incidents := s.it.incidents ++ [i], nextSerial := nextIncidentSerial serial }
  let s := (s.startChannelOnce slot (s.it.params.of n.grade).attendTime .single true).1
  let s := s.post (if n.urgent then .safety else n.grade.noticeClass)
    (.incidentOpened serial i.cls i.source i.grade i.urgent i.key i.segment i.linked (i.calls.head?.map (·.reference)))
  (if n.cls = .leak then s.judgeAutoPlan serial else s, serial)

/-! ## Calls (R104 to R108, R114 to R116) -/

/-- What the incident becomes at steps 1 to 4 of an attach (R107). -/
def Incident.attach (i : Incident) (call : CallRec) : Incident :=
  { i with
    calls := i.calls ++ [call]
    segment := i.segment.or call.segment
    urgent := i.urgent || call.kind == .fireOrBlast
    floor := if i.telemetry && i.calls.isEmpty && i.floor.isNone then some .p1 else i.floor }

/-- A call attaches to an incident (R107). -/
def State.attachCall (s : State) (i : Incident) (call : CallRec) : Answered :=
  let s := (s.setIncident (i.attach call)).recomputeGrade i.serial .call
  let x := (s.incident i.serial).getD i
  let s := s.post .operations (.callAttached i.serial call.reference call.kind x.calls.length x.grade x.urgent)
  (s.judgeAutoPlan i.serial, .ok, .call (.attached i.serial x.calls.length))

/-- A call that attaches to no candidate opens a new incident; `linked` is the oldest full match (R108). -/
def State.openForCall (s : State) (call : CallRec) (linked : Option Nat) : Answered :=
  match s.freeIncidentSlot with
  | none => refuse s .full
  | some slot =>
    let r := s.createIncident
      { cls := call.kind.cls, source := .call, grade := call.kind.grade, urgent := call.kind == .fireOrBlast,
        key := call.key, segment := call.segment, calls := [call], linked := linked } slot
    (r.1, .ok, .call (.opened r.2 linked))

/-- A call is matched against the open incidents in creation order (R106 to R108, R116). -/
def State.matchCall (s : State) (call : CallRec) : Answered :=
  let candidates := s.it.incidents.filter fun i => i.matchesCall call
  match candidates.find? fun i => i.calls.length < Config.callsPerIncident with
  | some i => s.attachCall i call
  | none => s.openForCall call (candidates.head?.map (·.serial))

/-- A call that has passed its checks (R104): NO_SUPPLY goes to the routing of R115, the others to coalescing. -/
def State.takeCall (s : State) (call : CallRec) : Answered :=
  match call.kind, call.segment with
  | .noSupply, some seg =>
    match s.ou.services.get seg with
    | none => s.matchCall call
    | some x =>
      match x.outage with
      | some n => if s.isOff seg then (s.countNoGas n, .ok, .call (.outage n)) else s.matchCall call
      | none => s.matchCall call
  | _, _ => s.matchCall call

/-- A call kind by its number (R202). -/
def callKindOf : Nat → Option CallKind
  | 1 => some .outsideOdour
  | 2 => some .insideOdour
  | 3 => some .escape
  | 4 => some .fireOrBlast
  | 5 => some .noSupply
  | _ => none

/-- A call of some open incident holds the reference (R104 step 4). -/
def State.referenceHeld (s : State) (reference : BitVec 32) : Bool :=
  s.it.incidents.any fun i => i.calls.any fun c => c.reference == reference

/-- An optional segment field, its presence byte first: the outer none where the presence byte is no flag. -/
def optionalOf (presence value : Nat) : Option (Option Nat) :=
  (flagOf presence).map fun b => if b then some value else none

/-- An optional segment names a loaded segment if it is present (R104 step 3). -/
def State.segmentAllowed (s : State) (seg : Option Nat) : Bool :=
  match seg with
  | none => true
  | some g => (s.ms.segments.get g).isSome

/-- CALL (R104). -/
def State.callRequest (s : State) (reference kind key presence segment : Nat) : Answered :=
  if !s.inService then refuse s .mode
  else match callKindOf kind, optionalOf presence segment with
    | some k, some seg =>
      if reference = 0 ∨ ¬ s.segmentAllowed seg then refuse s .range
      else if s.referenceHeld (.ofNat 32 reference) then refuse s .duplicate
      else s.takeCall ⟨.ofNat 32 reference, k, .ofNat 24 key, seg, s.now⟩
    | _, _ => refuse s .range

/-! ## Falls (R117) -/

/-- The conditions a fall is taken on (R117). -/
def State.fallOpens (s : State) (seg : Nat) : Bool :=
  s.it.autoIncident && s.inService
    && (s.serviceState seg == some .inService || s.serviceState seg == some .depressed)
    && !s.it.incidents.any fun i => i.cls == .leak && i.segment == some seg

/-- A fall offered by the Pressure Evaluator (R51, R117). -/
def State.offerFall (s : State) (point seg : Nat) : State :=
  if s.fallOpens seg then
    match s.freeIncidentSlot with
    | none => s.post .safety (.incidentTableFull point seg)
    | some slot =>
      (s.createIncident
        { cls := .leak, source := .telemetry point, grade := .p1, urgent := false,
          key := ((s.ms.segments.get seg).map (·.centroid)).getD 0, segment := some seg, calls := [], linked := none }
        slot).1
  else s

/-! ## Deadlines and states (R113, R119 to R122, R125) -/

/-- An expiry of an incident slot's channel (R119). At the first one the channel has stopped, and the reminder is started,
retriggerable (R176); at later ones it runs and reloads itself. -/
def State.incidentExpiry (s : State) (slot : Nat) : State :=
  match s.it.incidents.find? fun i => i.slot == slot with
  | none => s
  | some i =>
    let stage := min (i.stage + 1) 15
    let s := s.setIncident { i with stage := stage }
    let s := s.post i.grade.noticeClass (.escalation i.serial i.grade i.state stage i.calls.length i.created)
    if (s.channel slot).running then s
    else s.startChannel slot (s.it.params.of i.grade).reminder .periodic true

/-- The checks of a request that names an incident (R113, R120 to R122, R125). -/
def State.withSerial (s : State) (serial : Nat) (f : Incident → Answered) : Answered :=
  if serial = 0 then refuse s .range
  else match s.incident serial with
    | none => refuse s .notFound
    | some i => f i

/-- ATTEND (R120). -/
def State.attendRequest (s : State) (serial : Nat) : Answered :=
  s.withSerial serial fun i =>
    match i.state with
    | .opened => ((s.setIncident { i with state := .attended }).stopChannel i.slot, .ok, .empty)
    | _ => refuse s .state

/-- MADE_SAFE (R121). -/
def State.madeSafeRequest (s : State) (serial : Nat) : Answered :=
  s.withSerial serial fun i =>
    match i.state with
    | .madeSafe => refuse s .state
    | _ => ((s.setIncident { i with state := .madeSafe }).stopChannel i.slot, .ok, .empty)

/-- CLOSE_INCIDENT (R122). -/
def State.closeIncidentRequest (s : State) (serial : Nat) : Answered :=
  s.withSerial serial fun i =>
    if i.context.isSome then refuse s .state
    else
      let s := s.stopChannel i.slot
      let s := s.post .operations
        (.incidentClosed i.serial i.cls i.source i.state i.grade i.calls.length i.stage i.created)
      (s.withIt { s.it with incidents := s.it.incidents.filter fun j => j.serial != serial }, .ok, .empty)

/-- A floor value by its number: P1, P2, P3, none (R113, R202). The outer none is a value outside these four. -/
def floorOf : Nat → Option (Option Grade)
  | 1 => some (some .p1)
  | 2 => some (some .p2)
  | 3 => some (some .p3)
  | 4 => some none
  | _ => none

/-- FLOOR (R113). -/
def State.floorRequest (s : State) (serial value : Nat) : Answered :=
  match floorOf value with
  | none => refuse s .range
  | some f =>
    s.withSerial serial fun i =>
      let s := (s.setIncident { i with floor := f }).recomputeGrade serial .floor
      (s, .ok, .grade (((s.incident serial).map (·.grade)).getD i.grade))

/-- READ_INCIDENT (R125), with the prescale and reload that R174 has reported with the channel's state (DEDUCED, log
entry 24). -/
def State.readIncident (s : State) (serial : Nat) : Answered :=
  s.withSerial serial fun i => (s, .ok, .incident i (s.channel i.slot).report)

end Sys2Proof.Machine
end

