-- ==== Sys2Proof/Machine/Pressure.lean ====
section
/-! DEFINITION. The Pressure Evaluator (chapter 3): the seven stages of a sample, staleness, segment conditions and the
offers to isolation. -/
namespace Sys2Proof.Machine

/-! ## Stages 1 to 4: band, conversion, filter, rate (R41, R43 to R45) -/

/-- The band of a raw count (R41): a fault, or the clamped count that goes on. -/
def bandOf (r : Nat) : Except RangeFault Nat :=
  if r ≤ 10376 then .error .underRange
  else if r ≤ 10922 then .ok 10923
  else if r ≤ 54613 then .ok r
  else if r ≤ 55978 then .ok 54613
  else .error .overRange

/-- The pressure of a clamped count (R43). -/
def convert (rec : PointRec) (rc : Nat) : Nat :=
  (clampInt 0 Config.maxPressure ((((rc - 10923) * rec.fullScale / 43690 : Nat) : Int) + rec.zeroOffset)).toNat

/-- The step of the filter (R44): d / 2^s truncated toward zero, and at least one pascal where d is not 0. -/
def filterStep (shift : Nat) (d : Int) : Int :=
  let q := d.tdiv (2 ^ shift)
  if q = 0 then (if 0 < d then 1 else if d < 0 then -1 else 0) else q

/-- The filtered value of a VALID point after a pressure (R44). -/
def filterValue (shift f p : Nat) : Nat :=
  if shift = 0 then p else ((f : Int) + filterStep shift ((p : Int) - f)).toNat

/-- The rate of a VALID point (R45). -/
def rateOf (old : Option Int) (f fPrev dt : Nat) : Option Int :=
  if dt = 0 then old
  else if 600 < dt then none
  else some (clampInt (-(Config.maxRate : Int)) Config.maxRate ((((f : Int) - fPrev) * 600).tdiv dt))

/-! ## Stages 5 and 6: zone and persistence (R46 to R48) -/

/-- A value lies on the low side of a low boundary (R46); `current` is the side of the current zone. -/
def lowSide (f b h : Nat) (current : Bool) : Bool := if f < b then true else if b + h ≤ f then false else current

/-- A value lies on the high side of a high boundary (R46). -/
def highSide (f b h : Nat) (current : Bool) : Bool :=
  if b < f then true else if (f : Int) ≤ (b : Int) - h then false else current

/-- The candidate zone of a filtered value with a current zone (R46). -/
def candidateZone (rec : PointRec) (current : Zone) (f : Nat) : Zone :=
  if lowSide f rec.lowAlarm rec.hysteresis (current == .lowAlarm) then .lowAlarm
  else if lowSide f rec.lowWarn rec.hysteresis (current == .lowAlarm || current == .lowWarn) then .lowWarn
  else if highSide f rec.highAlarm rec.hysteresis (current == .highAlarm) then .highAlarm
  else if highSide f rec.highWarn rec.hysteresis (current == .highWarn || current == .highAlarm) then .highWarn
  else .normal

/-- The severity of a zone (section 3.6). -/
def Zone.severity : Zone → Nat
  | .normal => 0
  | .lowWarn => 1
  | .highWarn => 1
  | .lowAlarm => 2
  | .highAlarm => 2

/-- A time has reached a deadline (R48). -/
def deadlineReached (t deadline : Time) : Bool := t.since deadline < 2147483648

/-- Stage 6 (R48): the zone and the pending zone after the candidate is judged against the current zone. -/
def persist (rec : PointRec) (t : Time) (current candidate : Zone) (pending : Option (Zone × Time)) :
    Zone × Option (Zone × Time) :=
  if candidate = current then (current, none)
  else
    let wait := if current.severity < candidate.severity then rec.persistEnter else rec.persistClear
    let deadline := match pending with
      | some p => if p.1 = candidate then p.2 else t + .ofNat 32 wait
      | none => t + .ofNat 32 wait
    if deadlineReached t deadline then (candidate, none) else (current, some (candidate, deadline))

/-! ## Stage 7: falls (R50) -/

/-- The rate is at or below −F (R50). -/
def steep (rec : PointRec) (rate : Option Int) : Bool :=
  match rate with
  | none => false
  | some r => 0 < rec.fallRate && r ≤ -(rec.fallRate : Int)

/-- The rate shows that the fall has eased (R50). -/
def eased (rec : PointRec) (rate : Option Int) : Bool :=
  match rate with
  | none => false
  | some r => -((rec.fallRate / 2 : Nat) : Int) < r

/-! ## A sample (R40 to R50) -/

/-- A point after a sample that goes on past stage 1, before stage 5: the seeding or the filter and the rate
(R44, R45, R47). -/
def PointLive.measured (x : PointLive) (rec : PointRec) (t : Time) (p : Nat) : PointLive :=
  match x.state, x.filtered with
  | .valid, some f =>
    let f' := filterValue rec.filterShift f p
    { x with filtered := some f', rate := rateOf x.rate f' f (t.since (x.lastSample.getD t)), lastSample := some t }
  | _, _ => { x with state := .valid, filtered := some p, rate := none, lastSample := some t }

/-- The zone stage 6 judges the candidate against: the zone held, or NORMAL where none is (R47). -/
def PointLive.judgedZone (x : PointLive) : Zone :=
  match x.state with
  | .awaiting => .normal
  | _ => x.zone.getD .normal

/-- The zone that decides the "otherwise" cases of stage 5: NORMAL for a sample that seeds the point (R47). -/
def PointLive.bandZone (x : PointLive) : Zone := if x.isValid then x.judgedZone else .normal

/-- Stages 5 and 6 (R46 to R48), for `x` as the sample found it and `y` as stage 4 left it. -/
def PointLive.zoned (x y : PointLive) (rec : PointRec) (t : Time) : PointLive :=
  let r := persist rec t x.judgedZone (candidateZone rec x.bandZone (y.filtered.getD 0)) x.pendingZone
  { y with zone := some r.1, pendingZone := r.2 }

/-- The fall count after stage 7's first two steps (R50). -/
def PointLive.nextFall (y : PointLive) (rec : PointRec) : Nat := if steep rec y.rate then min (y.fallCount + 1) 8 else 0

/-- Stage 7 posts a FALL (R50). -/
def PointLive.falls (y : PointLive) (rec : PointRec) : Bool := rec.fallCount ≤ y.nextFall rec && !y.fallLatch

/-- Stage 7 (R50). -/
def PointLive.fallen (y : PointLive) (rec : PointRec) : PointLive :=
  { y with fallCount := y.nextFall rec
           fallLatch := (y.fallLatch || y.falls rec) && !eased rec y.rate }

/-- A point after an out-of-range sample (R42). -/
def PointLive.ranged (x : PointLive) (sub : RangeFault) (t : Time) : PointLive :=
  match x.state with
  | .fault _ => { x with state := .fault sub, lastSample := some t }
  | _ => { x with state := .fault sub, pendingZone := none, fallCount := 0, lastSample := some t }

/-- The segment of a point is a member of some context's zone, or off supply (R49). -/
def State.expects (s : State) (seg : Nat) : Bool := (s.memberOf seg).isSome || s.isOff seg

/-- A zone of the low half: LOW_ALARM, LOW_WARN or NORMAL (R49). -/
def Zone.isLow : Zone → Bool
  | .lowAlarm => true
  | .lowWarn => true
  | .normal => true
  | _ => false

/-- An alarm zone (R49). -/
def Zone.isAlarm : Zone → Bool
  | .lowAlarm => true
  | .highAlarm => true
  | _ => false

/-- Post the ZONE_CHANGE of a change of zone with its class and EXPECTED flag (R49). -/
def State.postZone (s : State) (p seg : Nat) (old : Zone) (x : PointLive) : State :=
  match x.zone, x.filtered with
  | some new, some f =>
    if old = new then s
    else
      let expected := old.isLow && new.isLow && s.expects seg
      s.post (if expected then .service else if old.isAlarm || new.isAlarm then .safety else .service)
        (.zoneChange p seg old new f x.rate expected)
  | _, _ => s

/-- Post the FALL of stage 7 and offer the fall (R51). -/
def State.postFall (s : State) (p seg : Nat) (y x : PointLive) (rec : PointRec) : State :=
  match x.filtered, x.rate with
  | some f, some r =>
    if y.falls rec then (s.post .safety (.fall p seg f r x.fallCount)).offerFall p seg else s
  | _, _ => s

/-- Write a point's live record. -/
def State.setPoint (s : State) (p : Nat) (x : PointLive) : State :=
  s.withPe { s.pe with points := s.pe.points.set p x }

/-- Post the POINT_STATE of a change of state (R51), with f and the zone as the point then holds them. -/
def State.postPoint (s : State) (p seg : Nat) (old new : PointState) (cause : PointCause) (f : Option Nat)
    (zone : Option Zone) : State :=
  if old = new then s else s.post .operations (.pointState p seg old new cause f zone)

/-- Offer a sample to the context whose zone holds the segment (R56). -/
def State.offer (s : State) (p seg : Nat) (x : PointLive) : State :=
  match s.memberOf seg with
  | none => s
  | some c => s.offerSample c p x.state x.filtered seg

/-- One sample (R40): its seven stages, their notices in order, and the offer of R56. -/
def State.sample (s : State) (t : Time) (p raw : Nat) : State :=
  match s.ms.points.get p, s.pe.points.get p with
  | some rec, some x =>
    match bandOf raw with
    | .error sub =>
      let y := x.ranged sub t
      ((s.setPoint p y).postPoint p rec.segment x.state y.state .range y.filtered y.zone).offer p rec.segment y
    | .ok rc =>
      let y := x.measured rec t (convert rec rc)
      let z := (x.zoned y rec t)
      let w := z.fallen rec
      let s := s.setPoint p w
      let s := match x.state with
        | .awaiting => s
        | _ => s.postPoint p rec.segment x.state .valid .sample w.filtered x.zone
      let s := (s.postZone p rec.segment x.judgedZone w).postFall p rec.segment z w rec
      s.offer p rec.segment w
  | _, _ => s

/-! ## Segment conditions (R54, R55) -/

/-- The zones of the valid points of a segment. -/
def State.validZones (s : State) (seg : Nat) : List (Option Zone) :=
  (s.ms.pointsOf seg).filterMap fun p =>
    match s.pe.points.get p with
    | none => none
    | some x => if x.isValid then some x.zone else none

/-- The condition that the zones of the valid points give (R54). -/
def conditionOf (zones : List (Option Zone)) : Condition :=
  if zones.isEmpty then .noData
  else if zones.all fun z => z == some .lowAlarm then .low
  else if zones.any fun z => z == some .lowAlarm then .depressed
  else .normal

/-- Derive the condition of a segment, and deliver a change of it (R54, R55). -/
def State.deriveCondition (s : State) (seg : Nat) : State :=
  match s.pe.conditions.get seg with
  | none => s
  | some old =>
    let new := conditionOf (s.validZones seg)
    if old = new then s
    else (s.withPe { s.pe with conditions := s.pe.conditions.set seg new }).deliverCondition seg new

/-- Derive the conditions of the segments of some points, in ascending segment index (R40, R52, R53). -/
def State.deriveFor (s : State) (points : List Nat) : State :=
  (rising (points.filterMap fun p => (s.ms.points.get p).map (·.segment))).foldl State.deriveCondition s

/-- A point's state or zone differs between two live states (R40). -/
def State.pointChanged (old new : State) (p : Nat) : Bool :=
  match old.pe.points.get p, new.pe.points.get p with
  | some a, some b => a.state != b.state || a.zone != b.zone
  | _, _ => false

/-- A delivery of point entries, as (point, count) pairs in ascending point index (R40). -/
def State.deliverSamples (s : State) (t : Time) (samples : List (Nat × Nat)) : State :=
  let s' := samples.foldl (fun s e => s.sample t e.1 e.2) s
  s'.deriveFor ((samples.map (·.1)).filter fun p => s.pointChanged s' p)

/-! ## Staleness (R52, R53, R57) -/

/-- Tell the Isolation Unit that a point of a zone entered STALE (R57). -/
def State.tellStaleOf (s : State) (p seg : Nat) : State :=
  match s.memberOf seg with
  | none => s
  | some c => s.tellStale c p

/-- A point enters STALE (R52, R53). -/
def State.makeStale (s : State) (cause : PointCause) (p : Nat) : State :=
  match s.ms.points.get p, s.pe.points.get p with
  | some rec, some x =>
    let y := { x with state := .stale, pendingZone := none, fallCount := 0 }
    ((s.setPoint p y).postPoint p rec.segment x.state .stale cause y.filtered y.zone).tellStaleOf p rec.segment
  | _, _ => s

/-- The point is VALID, its outstation is on the line, and its last sample is older than the stale limit (R52). -/
def State.tooOld (s : State) (line p : Nat) : Bool :=
  match s.ms.points.get p, s.pe.points.get p with
  | some rec, some x =>
    x.isValid && (((s.ms.stations.get rec.station).map (·.line)) == some line)
      && (s.ms.lineOf line).staleLimit < s.now.since (x.lastSample.getD s.now)
  | _, _ => false

/-- The cycle complete event of a line (R52). -/
def State.cycleComplete (s : State) (line : Nat) : State :=
  let old := s.pe.points.indexes.filter fun p => s.tooOld line p
  (old.foldl (fun s p => s.makeStale .age p) s).deriveFor old

/-- A point of an outstation that enters LOST goes STALE: it is VALID or FAULT (R53). -/
def State.losesData (s : State) (p : Nat) : Bool :=
  match s.pe.points.get p with
  | none => false
  | some x =>
    match x.state with
    | .valid => true
    | .fault _ => true
    | _ => false

/-- The Pressure Evaluator takes an outstation's entry into LOST (R53). -/
def State.losePoints (s : State) (st : Nat) : State :=
  let gone := (rising ((s.ms.pointMapOf st).map (·.2))).filter fun p => s.losesData p
  (gone.foldl (fun s p => s.makeStale .stationLost p) s).deriveFor gone

/-! ## Changes of mode (R39) -/

/-- A point right after leaving CONFIGURE (R39). -/
def PointLive.initial : PointLive :=
  { state := .awaiting, filtered := none, rate := none, zone := none, pendingZone := none, fallCount := 0,
    fallLatch := false, lastSample := none }

/-- Leaving CONFIGURE: every loaded point in AWAITING, every loaded segment's condition NO_DATA (R39). -/
def State.startPressure (s : State) : State :=
  s.withPe { points := s.ms.points.mapRows fun _ _ => .initial, conditions := s.ms.segments.mapRows fun _ _ => .noData }

/-- Entry into CONFIGURE: the live state is discarded (R39). -/
def State.stopPressure (s : State) : State := s.withPe .reset

end Sys2Proof.Machine
end

