-- ==== Sys2Proof/Machine/Lines.lean ====
section
/-! DEFINITION. The Field Line Controllers (chapter 2): scan positions, arbitration, outstation health, statistics, and
their start and stop. -/
namespace Sys2Proof.Machine

/-! ## Outstations on a line (R19) -/

/-- The loaded outstation at an address of a line; validation has made it the only one. -/
def State.stationAt (s : State) (line address : Nat) : Option Nat :=
  (s.ms.stations.rows.find? fun r => r.2.line == line && r.2.address == address).map (·.1)

/-- Some loaded outstation names the line (R18). -/
def State.lineUsed (s : State) (line : Nat) : Bool := s.ms.stations.rows.any fun r => r.2.line == line

/-- An outstation is due in a pass unless it is LOST and the pass's cycle count is not 0 (R19). -/
def State.due (s : State) (st cycle : Nat) : Bool := (s.station st).health != .lost || cycle == 0

/-- The lowest due address of a line above a given one, under a cycle count (R19). -/
def State.nextDue (s : State) (line above cycle : Nat) : Option Nat :=
  (List.range 32).find? fun a =>
    above < a
      && match s.stationAt line a with
        | none => false
        | some st => s.due st cycle

/-! ## Statistics (R35, R36) -/

/-- A counter of an outstation's statistics. -/
def Statistics.get (x : Statistics) : StatName → Counter
  | .goodReplies => x.goodReplies
  | .timeouts => x.timeouts
  | .badReplies => x.badReplies
  | .busyAnswers => x.busyAnswers
  | .rejectAnswers => x.rejectAnswers
  | .ordersSent => x.ordersSent

/-- Write a counter of an outstation's statistics. -/
def Statistics.put (x : Statistics) (c : Counter) : StatName → Statistics
  | .goodReplies => { x with goodReplies := c }
  | .timeouts => { x with timeouts := c }
  | .badReplies => { x with badReplies := c }
  | .busyAnswers => { x with busyAnswers := c }
  | .rejectAnswers => { x with rejectAnswers := c }
  | .ordersSent => { x with ordersSent := c }

/-- Count one for a statistics counter of an outstation (R35), with STATS_HALF at 32,768 (R36). -/
def State.count (s : State) (st : Nat) (n : StatName) : State :=
  let x := s.station st
  let c := x.stats.get n
  let value := min (c.value + 1) 65535
  let half := value == 32768 && !c.half
  let s := s.setStation st { x with stats := x.stats.put ⟨value, c.half || half⟩ n }
  if half then s.post .operations (.statsHalf st n) else s

/-! ## Sending (R21, R22, R25) -/

/-- The valve channel of a valve. -/
def State.channelOf (s : State) (v : Nat) : Nat := ((s.ms.valves.get v).bind (·.channel)).getD 0

/-- A VALVE ORDER is sent: its slot moves to SENT, the order run rises by 1, and the frame is counted (R25, R71, R35). -/
def State.sendOrder (s : State) (line st k : Nat) : State :=
  let c := s.controller line
  let s := s.setController line { c with state := .inTransaction (.order st k), orderRun := c.orderRun + 1 }
  (s.modSlot k fun o => { o with stage := .sent }).count st .ordersSent

/-- A scan of the outstation at the scan position, which sets the order run to 0; a pass with no due outstation is a
quiet one (R20, R25). -/
def State.sendScan (s : State) (line : Nat) : State :=
  let c := s.controller line
  match c.scanPosition.bind fun a => s.stationAt line a with
  | some st => s.setController line { c with state := .inTransaction (.scan st), orderRun := 0 }
  | none => s.setController line { c with state := .quiet }

/-- The frame a line's controller sends in its transaction; a part held in reset sends nothing (R190). -/
def State.lineFrame (s : State) (line : Nat) : Option (List Byte) :=
  if s.crl.held then none
  else match (s.controller line).state with
    | .inTransaction (.scan st) => (s.ms.stations.get st).map fun r => scanFrame r.address
    | .inTransaction (.order st k) =>
      match s.ms.stations.get st, s.slot k with
      | some r, some o => some (orderFrame r.address (s.channelOf o.valve) o.action)
      | _, _ => none
    | _ => none

/-! ## Arbitration (R25, R26) -/

/-- The outstation of a slot's valve, if it is on the line and not LOST. -/
def State.targetOn (s : State) (line : Nat) (o : Order) : Option Nat :=
  match (s.ms.valves.get o.valve).bind (·.station) with
  | none => none
  | some st =>
    match s.ms.stations.get st with
    | none => none
    | some r => if r.line = line ∧ (s.station st).health ≠ .lost then some st else none

/-- Every condition of R25 for a slot but the one on authority: its order and its outstation. -/
def State.candidate (s : State) (line k : Nat) : Option (Order × Nat) :=
  match s.slot k with
  | none => none
  | some o =>
    if o.stage = .waiting ∧ s.inSupervise ∧ !s.vou.hold then (s.targetOn line o).map fun st => (o, st) else none

/-- The condition of R25 on authority: RECALL and RELEASE_LOCAL need none, OPEN and CLOSE need REMOTE. -/
def State.mayDrive (s : State) (o : Order) : Bool :=
  o.action.target.isNone || (s.vou.valves.get o.valve).bind (·.authority) == some .remote

/-- An order is eligible on a line (R25): its outstation. -/
def State.eligible (s : State) (line k : Nat) : Option Nat :=
  match s.candidate line k with
  | none => none
  | some x => if s.mayDrive x.1 then some x.2 else none

/-- A slot that only its valve's authority makes not eligible is handed back and ends REJECTED_LOCAL (R26, R71). -/
def State.handBack (s : State) (line k : Nat) : State :=
  match s.candidate line k with
  | none => s
  | some x => if s.mayDrive x.1 then s else s.endOrder k .rejectedLocal

/-- Order `a` goes before order `b`: a higher priority, or an equal one and an earlier WAITING time (R25). The
earlier time is the one with the greater age, modulo 2^32. -/
def Order.before (now : Time) (a b : Order) : Bool :=
  b.priority < a.priority
    || (a.priority == b.priority && decide (now.since b.waitingTime < now.since a.waitingTime))

/-- The eligible slot R25 chooses, with its outstation; the lower slot wins between equals. -/
def State.bestOrder (s : State) (line : Nat) : Option (Nat × Nat) :=
  (List.range 12).foldl (fun best k =>
    match s.eligible line k, best with
    | none, _ => best
    | some st, none => some (k, st)
    | some st, some b =>
      match s.slot k, s.slot b.1 with
      | some x, some y => if x.before s.now y then some (k, st) else best
      | _, _ => best) none

/-- The choice among the orders of a line, and the scan where none is eligible (R25 steps 2 and 3, R26). It chooses among the
orders that stand after the hand-backs, those that took a slot freed by one (R84) among them (DESIGN CHOICE, log entry 16). -/
def State.chooseOrder (s : State) (line : Nat) : State :=
  let s := (List.range 12).foldl (fun s k => s.handBack line k) s
  match s.bestOrder line with
  | some b => s.sendOrder line b.2 b.1
  | none => s.sendScan line

/-- The controller chooses the next transaction (R25). A choice that an order run of 4 forces to a scan hands no order back:
R26 does not say whether it does (DESIGN CHOICE, log entry 16). -/
def State.chooseTransaction (s : State) (line : Nat) : State :=
  if (s.controller line).orderRun = 4 then s.sendScan line else s.chooseOrder line

/-! ## Passes (R19, R20) -/

/-- A pass is complete (R19): the cycle complete event and the start of the new pass. -/
def State.endPass (s : State) (line : Nat) : State :=
  let cycle := ((s.controller line).cycleCount + 1) % 8
  let s := (s.setController line { s.controller line with scanPosition := none, cycleCount := cycle }).cycleComplete line
  s.setController line { s.controller line with scanPosition := s.nextDue line 0 cycle }

/-- The end of the scan of an address (R19). -/
def State.advanceScan (s : State) (line address : Nat) : State :=
  match s.nextDue line address (s.controller line).cycleCount with
  | some a => s.setController line { s.controller line with scanPosition := some a }
  | none => s.endPass line

/-! ## Health (R28 to R33) -/

/-- The health counter after a transaction (R28). -/
def counterAfter (n : Nat) (good : Bool) : Nat := if good then n - 1 else min (n + 8) 255

/-- The state a counter gives an outstation in HEALTHY or DEGRADED (R29). -/
def Health.fromCounter : Health → Nat → Health
  | .lost, _ => .lost
  | .healthy, n => if 128 ≤ n then .lost else if 64 ≤ n then .degraded else .healthy
  | .degraded, n => if 128 ≤ n then .lost else if 32 ≤ n then .degraded else .healthy

/-- An outstation after the end of a transaction (R28, R29, R31); `scan` tells a scan from an order. -/
def StationLive.afterTransaction (x : StationLive) (good scan : Bool) : StationLive :=
  let n := counterAfter x.counter good
  match x.health with
  | .lost =>
    if scan then
      if good then
        if 4 ≤ x.goodRun + 1 then { x with health := .degraded, counter := 64, goodRun := 0 }
        else { x with counter := n, goodRun := x.goodRun + 1 }
      else { x with counter := n, goodRun := 0 }
    else { x with counter := n }
  | h =>
    let h' := h.fromCounter n
    { x with health := h', counter := n, goodRun := if h' = .lost then 0 else x.goodRun }

/-- The gates of the channels of every slot in MOVING whose valve is on an outstation (R33). -/
def State.gateStation (s : State) (st : Nat) (gateOpen : Bool) : State :=
  (List.range 12).foldl (fun s k =>
    match s.slot k with
    | none => s
    | some o =>
      if o.stage = .moving ∧ (s.ms.valves.get o.valve).bind (·.station) = some st then
        s.gateChannel (Config.orderChannel + k) gateOpen
      else s) s

/-- The effects of an entry into LOST on points and valves (R30), in the order the event gives. -/
def State.enterLost (s : State) (st : Nat) (own : Option Nat) : DeliveryOrder → State
  | .pointsFirst => (s.losePoints st).loseValves st own
  | .valvesFirst => (s.loseValves st own).losePoints st

/-- Post the STATION_HEALTH of a change (R32). -/
def State.postHealth (s : State) (st : Nat) (old new : StationLive) : State :=
  match s.ms.stations.get st with
  | none => s
  | some r =>
    s.post .operations (.stationHealth st r.line r.address old.health new.health new.counter
      (if old.health = .lost then .recovery else .counter))

/-- What a change of health state does: the notice (R32), the gates (R33) and the entry into LOST (R30). -/
def State.healthChanged (s : State) (st : Nat) (old new : StationLive) (own : Option Nat) (order : DeliveryOrder) :
    State :=
  if old.health = new.health then s
  else
    let s := s.postHealth st old new
    match new.health with
    | .degraded => s.gateStation st false
    | .healthy => s.gateStation st true
    | .lost => s.enterLost st own order

/-- The health update of section 2.5 at the end of a transaction. -/
def State.updateHealth (s : State) (st : Nat) (good scan : Bool) (own : Option Nat) (order : DeliveryOrder) : State :=
  let old := s.station st
  let new := old.afterTransaction good scan
  (s.setStation st new).healthChanged st old new own order

/-! ## Start and stop (R18, R38) -/

/-- A controller starts on leaving CONFIGURE (R18). -/
def State.startLine (s : State) (line : Nat) : State :=
  if s.lineUsed line then
    (s.setController line { state := .idle, scanPosition := s.nextDue line 0 0, cycleCount := 0, orderRun := 0
      }).chooseTransaction line
  else s.setController line { Controller.reset with state := .idle }

/-- The controllers start (R18). -/
def State.startLines (s : State) : State := (List.range 4).foldl State.startLine s

/-- Entry into CONFIGURE: the controllers stop, and every outstation index returns to its reset values (R38). -/
def State.stopLines (s : State) : State := s.withFlc .reset

end Sys2Proof.Machine
end

