-- ==== Sys2Proof/Machine/Modes.lean ====
section
/-! DEFINITION. Changes of mode (section 11.5). -/
namespace Sys2Proof.Machine

/-- Write the mode and clear the pending flag. -/
def State.setMode (s : State) (m : Mode) : State := s.withCrl { s.crl with mode := m, pendingConfigure := false }

/-- Post the MODE_CHANGED of a change from `old` (R194). -/
def State.postMode (s : State) (old : Mode) : State := s.post .operations (.modeChanged old s.mode)

/-- Leaving CONFIGURE after a successful validation (R195). -/
def State.leaveConfigure (s : State) (m : Mode) : State :=
  let old := s.mode
  ((((((s.setMode m).startPressure).startValves).startService).startEngine).startLines).postMode old

/-- The change to CONFIGURE takes effect (R198). -/
def State.enterConfigure (s : State) : State :=
  let old := s.mode
  ((((((s.stopLines).stopPressure).stopValves).stopEngine).stopService).setMode .configure).postMode old

/-- At an event that leaves no slot SENT or MOVING, a pending change to CONFIGURE takes effect (R198). -/
def State.settleConfigure (s : State) : State :=
  if s.pendingChange && !s.ordersBusy then s.enterConfigure else s

/-- The conditions of a change to CONFIGURE (R197). -/
def State.mayConfigure (s : State) : Bool :=
  s.it.incidents.isEmpty && (List.range 8).all (fun c => (s.context c).state == .free) && s.ou.active.isEmpty

/-- A mode by its number (R202). -/
def modeOf : Nat → Option Mode
  | 1 => some .configure
  | 2 => some .supervise
  | 3 => some .observe
  | _ => none

/-- SET_MODE in CONFIGURE for SUPERVISE or OBSERVE (R12, R195). -/
def State.validateAndLeave (s : State) (m : Mode) : Answered :=
  let r := s.ms.validate
  match r.2 with
  | some report => (s.withMs r.1, .model, .failure report)
  | none => ((s.withMs r.1).leaveConfigure m, .ok, .empty)

/-- SET_MODE for CONFIGURE in SUPERVISE or OBSERVE with the pending flag clear (R197). -/
def State.askConfigure (s : State) : Answered :=
  if s.mayConfigure then
    let s := (s.withCrl { s.crl with pendingConfigure := true }).endWaiting .abortedMode
    if s.ordersBusy then (s, .accepted, .empty) else (s.settleConfigure, .ok, .empty)
  else refuse s .state

/-- The swap of SUPERVISE and OBSERVE (R196). -/
def State.swapMode (s : State) (m : Mode) : State :=
  let old := s.mode
  let s := s.setMode m
  let s := if m = .observe then s.endWaiting .abortedMode else s
  s.postMode old

/-- SET_MODE (R194 to R197). -/
def State.setModeRequest (s : State) (value : Nat) : Answered :=
  match modeOf value with
  | none => refuse s .range
  | some m =>
    if s.pendingChange then
      match m with
      | .configure => (s, .accepted, .empty)
      | _ => refuse s .state
    else if m = s.mode then (s, .ok, .empty)
    else match s.mode, m with
      | .configure, _ => s.validateAndLeave m
      | _, .configure => s.askConfigure
      | _, _ => (s.swapMode m, .ok, .empty)

end Sys2Proof.Machine
end

