-- ==== Sys2Proof/Machine/Transactions.lean ====
section
/-! DEFINITION. The end of a field transaction or of a quiet wait (sections 2.2, 2.3, 2.6). -/
namespace Sys2Proof.Machine

/-- How a transaction ended (R23). -/
inductive Ending
  | report (r : Report)
  | answer (a : TransactionResult)
  | badReply
  | timeout
deriving DecidableEq, Repr

/-- The ending is a good reply (R23). -/
def Ending.good : Ending → Bool
  | .report _ => true
  | .answer _ => true
  | _ => false

/-- The statistics counters an ending counts (R35). Good replies are counted before a BUSY or REJECT answer, so where both
counters reach 32,768 at one end, the STATS_HALF of good replies is posted first (DESIGN CHOICE, log entry 29). -/
def Ending.counts : Ending → List StatName
  | .report _ => [.goodReplies]
  | .answer .busy => [.goodReplies, .busyAnswers]
  | .answer .rejectLocal => [.goodReplies, .rejectAnswers]
  | .answer .rejectFault => [.goodReplies, .rejectAnswers]
  | .answer _ => [.goodReplies]
  | .badReply => [.badReplies]
  | .timeout => [.timeouts]

/-- The result an order transaction hands over (R27). -/
def Ending.result : Ending → TransactionResult
  | .answer a => a
  | _ => .noReply

/-- The samples of a report, as (point, count) pairs in ascending point index (R21, R40). -/
def State.samplesOf (s : State) (st : Nat) (r : Report) : List (Nat × Nat) :=
  let map := s.ms.pointMapOf st
  (rising (map.map (·.2))).filterMap fun p =>
    (map.find? fun e => e.2 == p).map fun e => (p, r.counts.getD e.1 0)

/-- The valve entries of a report, in ascending valve index (R21, R61). -/
def State.readingsOf (s : State) (st : Nat) (r : Report) : List ValveReading :=
  let map := s.ms.valveMapOf st
  (rising (map.map (·.2))).filterMap fun v =>
    (map.find? fun e => e.2 == v).map fun e =>
      let b := r.valves.getD e.1 ⟨false, false, false⟩
      ⟨v, b.openLimit, b.closedLimit, b.localSwitch⟩

/-- Hand the contents of a report on (R34), for an outstation whose health was `was` before the update. -/
def State.deliverReport (s : State) (st : Nat) (r : Report) (was : Health) (order : DeliveryOrder) : State :=
  let t := s.now
  let points := fun s : State => s.deliverSamples t (s.samplesOf st r)
  let valves := fun s : State => s.deliverReadings (s.readingsOf st r)
  match (s.station st).health, was with
  | .lost, _ => s
  | _, .lost => valves s
  | _, _ =>
    match order with
    | .pointsFirst => valves (points s)
    | .valvesFirst => points (valves s)

/-- The end of a transaction up to the hand-over: health, statistics, and the results to the blocks concerned (R23). -/
def State.closeTransaction (s : State) (t : Transaction) (e : Ending) (order : DeliveryOrder) : State :=
  match t with
  | .scan st =>
    let was := (s.station st).health
    let s := e.counts.foldl (fun s n => s.count st n) (s.updateHealth st e.good true none order)
    match e with
    | .report r => s.deliverReport st r was order
    | _ => s
  | .order st k =>
    let s := e.counts.foldl (fun s n => s.count st n) (s.updateHealth st e.good false (some k) order)
    s.judgeTransaction k e.result (s.station st).health

/-- After the hand-over: the scan position of a scan, then the choice of the next transaction (R19, R25). So a scan that ends a
pass delivers its own report before the cycle complete event of that pass (DESIGN CHOICE, log entry 26). A controller that the
event has stopped (R38) does neither. -/
def State.nextTransaction (s : State) (line : Nat) (t : Transaction) : State :=
  match (s.controller line).state with
  | .inTransaction _ =>
    let s := match t with
      | .scan st => s.advanceScan line (((s.ms.stations.get st).map StationRec.address).getD 0)
      | .order _ _ => s
    s.chooseTransaction line
  | _ => s

/-- The end of the transaction in flight on a line, if there is one (R23, R198). -/
def State.endTransaction (s : State) (line : Nat) (e : Ending) (order : DeliveryOrder) : State :=
  match (s.controller line).state with
  | .inTransaction t => ((s.closeTransaction t e order).settleConfigure).nextTransaction line t
  | _ => s

/-- What the transaction in flight on a line expects: the address and the reply (R24). -/
def State.expectedOn (s : State) (line : Nat) : Option (Nat × Expected) :=
  match (s.controller line).state with
  | .inTransaction (.scan st) => (s.ms.stations.get st).map fun r => (r.address, .report)
  | .inTransaction (.order st k) =>
    match s.ms.stations.get st, s.slot k with
    | some r, some o => some (r.address, .answer (s.channelOf o.valve))
    | _, _ => none
  | _ => none

/-- The bytes of a reply window are judged (R23, R24). Outside a transaction they are discarded (R17, R20, R23), and
bytes that are not yet a whole frame judge nothing. -/
def State.lineBytes (s : State) (line : Nat) (bytes : List Byte) (order : DeliveryOrder) : State :=
  match s.expectedOn line with
  | none => s
  | some x =>
    match judgeField x.1 x.2 bytes with
    | .incomplete => s
    | .bad => s.endTransaction line .badReply order
    | .report r => s.endTransaction line (.report r) order
    | .answer a => s.endTransaction line (.answer a) order

/-- The quiet wait of a line ends (R20). -/
def State.endQuiet (s : State) (line : Nat) : State :=
  match (s.controller line).state with
  | .quiet => (s.endPass line).chooseTransaction line
  | _ => s

end Sys2Proof.Machine
end

