-- ==== Sys2Proof/Machine/Model.lean ====
section
/-! DEFINITION. The requests of the Model Store (chapter 1), STATION_STATS (R37), and the requests of the Outage Unit
(chapter 8). -/
namespace Sys2Proof.Machine

/-! ## Named values by their numbers (R202) -/

/-- A tier by its number: LP, MP, IP. -/
def tierOf : Nat → Option Tier
  | 1 => some .lp
  | 2 => some .mp
  | 3 => some .ip
  | _ => none

/-- A valve kind by its number: LINE, REGULATOR, FEED. -/
def valveKindOf : Nat → Option ValveKind
  | 1 => some .line
  | 2 => some .regulator
  | 3 => some .feed
  | _ => none

/-- An actuation by its number: REMOTE, MONITORED, MANUAL. -/
def actuationOf : Nat → Option Actuation
  | 1 => some .remote
  | 2 => some .monitored
  | 3 => some .manual
  | _ => none

/-- A normal position by its number: OPEN, CLOSED. -/
def settledOf : Nat → Option Settled
  | 1 => some .opened
  | 2 => some .closed
  | _ => none

/-! ## Loading (R2 to R11) -/

/-- A LOAD that is taken leaves the model not valid and the derived lists absent (R2). -/
def State.loaded (s : State) (m : ModelStore) : Answered := (s.withMs { m with derived := none }, .ok, .empty)

/-- A LOAD of a record that passes its checks is stored; one that does not is refused with RANGE (R2). -/
def State.load {α : Type} (s : State) (record : Option α) (store : α → ModelStore) : Answered :=
  if !s.inConfigure then refuse s .mode
  else match record with
    | none => refuse s .range
    | some r => s.loaded (store r)

/-- The segment record of a LOAD_SEGMENT (R3). -/
def segmentRecord (index tier points critical key : Nat) : Option SegmentRec :=
  if index < Config.segments then (tierOf tier).map fun t => ⟨t, points, critical, .ofNat 24 key⟩ else none

/-- LOAD_SEGMENT (R3). -/
def State.loadSegment (s : State) (index tier points critical key : Nat) : Answered :=
  s.load (segmentRecord index tier points critical key) fun r => { s.ms with segments := s.ms.segments.set index r }

/-- The sides of a valve by its kind (R4). -/
def sidesOf (kind : ValveKind) (a : Option Nat) (b : Nat) : Option Side :=
  if Config.segments ≤ b then none
  else match kind, a with
    | .feed, none => some .source
    | .feed, some _ => none
    | _, none => none
    | _, some g => if g < Config.segments ∧ g ≠ b then some (.segment g) else none

/-- The outstation and channel of a valve by its actuation (R5). -/
def attachmentOf (a : Actuation) (station : Option Nat) (channel : Nat) : Option (Option Nat × Option Nat) :=
  match a, station with
  | .manual, none => some (none, none)
  | .manual, some _ => none
  | _, none => none
  | _, some st => if st < Config.stations then some (some st, some channel) else none

/-- The fields of a LOAD_VALVE, as numbers (R4, R5). -/
structure ValveFields where
  kind : Nat
  presentA : Nat
  sideA : Nat
  sideB : Nat
  actuation : Nat
  presentStation : Nat
  station : Nat
  channel : Nat
  normal : Nat
  travel : Nat
  answer : Nat
deriving DecidableEq, Repr

/-- The valve record of a LOAD_VALVE (R4, R5). -/
def valveRecord (index : Nat) (f : ValveFields) : Option ValveRec := do
  let kind ← valveKindOf f.kind
  let a ← optionalOf f.presentA f.sideA
  let side ← sidesOf kind a f.sideB
  let act ← actuationOf f.actuation
  let st ← optionalOf f.presentStation f.station
  let att ← attachmentOf act st f.channel
  let normal ← settledOf f.normal
  if index < Config.valves then
    some { kind := kind, sideA := side, sideB := f.sideB, actuation := act, station := att.1, channel := att.2,
           normal := normal, travelTime := clamp 1 6000 f.travel, recallTime := clamp 10 6000 f.answer }
  else none

/-- LOAD_VALVE (R4, R5). -/
def State.loadValve (s : State) (index : Nat) (f : ValveFields) : Answered :=
  s.load (valveRecord index f) fun r => { s.ms with valves := s.ms.valves.set index r }

/-- The checks of a pressure point record before its clamps (R6, R7). -/
def PointRec.acceptable (r : PointRec) : Bool :=
  r.segment < Config.segments && r.station < Config.stations
    && 1000 ≤ r.fullScale && r.fullScale ≤ Config.maxPressure
    && -65536 ≤ r.zeroOffset && r.zeroOffset ≤ 65535
    && r.fallRate ≤ Config.maxRate
    && r.lowAlarm ≤ Config.maxPressure && r.lowWarn ≤ Config.maxPressure
    && r.highWarn ≤ Config.maxPressure && r.highAlarm ≤ Config.maxPressure
    && r.lowAlarm + r.hysteresis < r.lowWarn
    && r.lowWarn + 2 * r.hysteresis < r.highWarn
    && r.highWarn + r.hysteresis < r.highAlarm

/-- The clamps of a pressure point record (R6). -/
def PointRec.clamped (r : PointRec) : PointRec :=
  { r with
    filterShift := clamp 0 7 r.filterShift
    persistEnter := clamp 0 6000 r.persistEnter
    persistClear := clamp 0 6000 r.persistClear
    fallCount := clamp 1 8 r.fallCount }

/-- LOAD_POINT (R6, R7). -/
def State.loadPoint (s : State) (index : Nat) (r : PointRec) : Answered :=
  s.load (if index < Config.points ∧ r.acceptable then some r.clamped else none) fun r =>
    { s.ms with points := s.ms.points.set index r }

/-- LOAD_STATION (R8). -/
def State.loadStation (s : State) (index line address : Nat) : Answered :=
  s.load (if index < Config.stations ∧ line < 4 ∧ 1 ≤ address ∧ address ≤ 31 then some ⟨line, address⟩ else none)
    fun r : StationRec => { s.ms with stations := s.ms.stations.set index r }

/-- A legal baud rate (R9). -/
def baudAllowed (b : Nat) : Bool := b == 38400 || b == 115200

/-- A line record with its clamps (R9). -/
def LineRec.clamped (r : LineRec) : LineRec :=
  { replyTimeout := clamp 20 2000 r.replyTimeout, staleLimit := clamp 10 6000 r.staleLimit,
    retryLimit := clamp 1 7 r.retryLimit, baud := r.baud }

/-- Write a line record. -/
def ModelStore.setLine (m : ModelStore) (line : Nat) (r : LineRec) : ModelStore :=
  { m with lines := m.lines.setIfInBounds line r }

/-- LOAD_LINE (R9). -/
def State.loadLine (s : State) (line : Nat) (r : LineRec) : Answered :=
  s.load (if line < 4 ∧ baudAllowed r.baud then some r.clamped else none) fun r => s.ms.setLine line r

/-- LOAD_TIER (R10). -/
def State.loadTier (s : State) (tier drop vent time : Nat) : Answered :=
  s.load (if drop ≤ Config.maxPressure ∧ vent ≤ Config.maxPressure then tierOf tier else none) fun t =>
    { s.ms with tiers := s.ms.tiers.put ⟨drop, vent, clamp 10 36000 time⟩ t }

/-- MODEL_CLEAR (R11). -/
def State.modelClear (s : State) : Answered :=
  if !s.inConfigure then refuse s .mode else (s.withMs s.ms.clear, .ok, .empty)

/-! ## Reading (R15, R16) -/

/-- READ_SEGMENT (R15). -/
def State.readSegment (s : State) (index : Nat) : Answered :=
  if Config.segments ≤ index then refuse s .range
  else match s.ms.segments.get index with
    | none => refuse s .notFound
    | some r =>
      let live := match s.me.fed.get index, s.pe.conditions.get index, s.ou.services.get index with
        | some fed, some cond, some x => some ⟨fed, cond, x.state, x.outage, s.memberOf index⟩
        | _, _, _ => none
      (s, .ok, .segment r (s.ms.tiers.of r.tier) (s.ms.derived.bind fun d => d.adjacent.get index)
        (s.ms.derived.bind fun d => d.segmentPoints.get index) live)

/-- READ_VALVE (R15). -/
def State.readValve (s : State) (index : Nat) : Answered :=
  if Config.valves ≤ index then refuse s .range
  else match s.ms.valves.get index with
    | none => refuse s .notFound
    | some r => (s, .ok, .valve r (s.vou.valves.get index))

/-- READ_POINT (R16). -/
def State.readPoint (s : State) (index : Nat) : Answered :=
  if Config.points ≤ index then refuse s .range
  else match s.ms.points.get index with
    | none => refuse s .notFound
    | some r => (s, .ok, .point r (s.pe.points.get index))

/-- The live fields of an outstation, outside CONFIGURE (R16); the good run while LOST. -/
def State.stationStatus (s : State) (st : Nat) : Option StationStatus :=
  if s.inConfigure then none
  else
    let x := s.station st
    some ⟨x.health, x.counter, if x.health = .lost then some x.goodRun else none⟩

/-- READ_STATION (R16). -/
def State.readStation (s : State) (index : Nat) : Answered :=
  if Config.stations ≤ index then refuse s .range
  else match s.ms.stations.get index with
    | none => refuse s .notFound
    | some r =>
      (s, .ok, .station r (s.ms.lineOf r.line) (s.ms.derived.bind fun d => d.pointMap.get index)
        (s.ms.derived.bind fun d => d.valveMap.get index) (s.stationStatus index))

/-- STATION_STATS (R37). -/
def State.stationStats (s : State) (index clear : Nat) : Answered :=
  match flagOf clear with
  | none => refuse s .range
  | some c =>
    if Config.stations ≤ index then refuse s .range
    else match s.ms.stations.get index with
      | none => refuse s .notFound
      | some _ =>
        let x := s.station index
        (if c then s.setStation index { x with stats := .zero } else s, .ok, .statistics x.stats)

/-! ## Outages (R160, R171, R172) -/

/-- RELIGHT_DONE (R160). -/
def State.relightDone (s : State) (seg : Nat) : Answered :=
  if s.inConfigure then refuse s .mode
  else if Config.segments ≤ seg then refuse s .range
  else match s.ou.services.get seg with
    | none => refuse s .notFound
    | some x =>
      match x.state, x.outage with
      | .restoring, some n =>
        let s := s.relightSegment seg n x
        (s, .ok, .relit n (s.outage n).offCount (s.outage n).relit)
      | _, _ => refuse s .state

/-- DISCARD_OUTAGE (R171). -/
def State.discardOutage (s : State) (n : Nat) : Answered :=
  if 16 ≤ n then refuse s .range
  else match (s.outage n).state with
    | .free => refuse s .notFound
    | .active => refuse s .state
    | .closed => (s.setOutage n .free, .ok, .empty)

/-- READ_OUTAGE (R172). -/
def State.readOutage (s : State) (n : Nat) : Answered :=
  if 16 ≤ n then refuse s .range
  else match (s.outage n).state with
    | .free => refuse s .notFound
    | st =>
      let s := if st = .active then s.bringRecord n else s
      let r := s.outage n
      (s, .ok, .outage r (r.segments.map fun e => s.serviceState e.segment) r.customerMinutes
        (if st = .active then (s.channel (Config.outageChannel + n)).remaining else none))

end Sys2Proof.Machine
end

