-- ==== Sys2Proof/Machine/Queues.lean ====
section
/-! DEFINITION. FETCH (sections 10.4 and 10.2) and the requests the link block answers itself: IDENT, STATUS and
SET_PARAM (sections 11.6 and 11.7). -/
namespace Sys2Proof.Machine

/-! ## FETCH (R186, R187) -/

/-- Take notices from the head of a queue: at most `n`, and each only while it fits in `room` bytes. The second list
is what stays. -/
def takeNotices : Nat → Nat → List Notice → List Notice × List Notice
  | 0, _, l => ([], l)
  | _, _, [] => ([], [])
  | n + 1, room, x :: rest =>
    if x.size ≤ room then
      let r := takeNotices n (room - x.size) rest
      (x :: r.1, r.2)
    else ([], x :: rest)

/-- The bytes some notices take in a reply. -/
def bytesTaken (l : List Notice) : Nat := (l.map Notice.size).sum

/-- The OVERFLOW notice of a class whose overflow flag is set, made at a time (R187). -/
def ClassQueue.overflowNotice (q : ClassQueue) (cls : NoticeClass) (now : Time) : Option Notice :=
  q.drops.map fun d => ⟨0, cls, now, .overflow cls q.sinceReport d.1 d.2⟩

/-- The OVERFLOW has been placed in a reply (R187). -/
def ClassQueue.reported (q : ClassQueue) : ClassQueue := { q with drops := none, sinceReport := 0 }

/-- Take notices from a class queue: the queue after, the notices taken. -/
def ClassQueue.takeUpTo (q : ClassQueue) (n room : Nat) : ClassQueue × List Notice :=
  let r := takeNotices n room q.notices
  ({ q with notices := r.2, fetched := q.fetched + .ofNat 32 r.1.length }, r.1)

/-- Visit a class (R186): its OVERFLOW first where its flag is set, then its queued notices. An OVERFLOW that does not
fit, or finds the count used up, stops the taking. -/
def ClassQueue.visit (q : ClassQueue) (cls : NoticeClass) (now : Time) (n room : Nat) : ClassQueue × List Notice :=
  match q.overflowNotice cls now with
  | none => q.takeUpTo n room
  | some o =>
    if 0 < n ∧ o.size ≤ room then
      let r := q.reported.takeUpTo (n - 1) (room - o.size)
      (r.1, o :: r.2)
    else (q, [])

/-- The class is empty: no notice is held and no overflow flag is set. -/
def ClassQueue.idle (q : ClassQueue) : Bool := q.notices.isEmpty && q.drops.isNone

/-- Visit the classes in order; the next class is visited only once the one before it is empty (R186). -/
def NoticeQueues.visitAll (now : Time) : List NoticeClass → Nat → Nat → NoticeQueues → NoticeQueues × List Notice
  | [], _, _, q => (q, [])
  | c :: rest, n, room, q =>
    let r := (q.queue c).visit c now n room
    let q := q.setQueue r.1 c
    if r.1.idle then
      let t := visitAll now rest (n - r.2.length) (room - bytesTaken r.2) q
      (t.1, r.2 ++ t.2)
    else (q, r.2)

/-- The figures of a class in a FETCH reply (R186). -/
def ClassQueue.figures (q : ClassQueue) : FetchFigures :=
  { held := q.notices.length, overflow := q.overflow, generated := q.generated, fetched := q.fetched,
    dropped := q.dropped }

/-- FETCH (R186). -/
def State.fetchRequest (s : State) (n : Nat) : Answered :=
  let r := NoticeQueues.visitAll s.now s.nq.classOrder (clamp 1 Config.fetchNotices n)
    (Config.bodyBytes - Config.fetchFixed) s.nq
  (s.withNq r.1, .ok, .fetch r.1.safety.figures r.1.operations.figures r.1.service.figures r.2)

/-! ## IDENT and STATUS (R200, R201) -/

/-- IDENT (R200). -/
def State.identRequest (s : State) : Answered :=
  (s, .ok, .ident Config.partNumber Config.designRevision s.crl.siteStraps (linkRate s.crl.rateStraps) s.crl.cause s.mode
    s.now)

/-- The figures of a class in a STATUS reply (R201). -/
def ClassQueue.status (q : ClassQueue) : ClassStatus :=
  { held := q.notices.length, dropped := q.dropped, overflow := q.overflow }

/-- The contents of STATUS (R201). -/
def State.statusReport (s : State) : StatusReport :=
  { mode := s.mode
    pendingMode := if s.pendingChange then some .configure else none
    modelValid := s.ms.valid
    cause := s.crl.cause
    time := s.now
    safety := s.nq.safety.status
    operations := s.nq.operations.status
    service := s.nq.service.status
    hold := s.vou.hold
    openIncidents := s.it.incidents.length
    busyContexts := ((List.range 8).filter fun c => (s.context c).state != .free).length
    activeOutages := s.ou.active.length
    freeSlots := ((List.range 12).filter fun k => (s.slot k).isNone).length
    waitingList := s.vou.waiting.length
    linkErrors := s.crl.linkErrors }

/-- STATUS (R201). -/
def State.statusRequest (s : State) : Answered := (s, .ok, .status s.statusReport)

/-! ## SET_PARAM (R199) -/

/-- A grade by its number. -/
def gradeOf : Nat → Option Grade
  | 1 => some .p1
  | 2 => some .p2
  | 3 => some .p3
  | _ => none

/-- A class by its number. -/
def classOf : Nat → Option NoticeClass
  | 1 => some .safety
  | 2 => some .operations
  | 3 => some .service
  | _ => none

/-- A line by its index. -/
def lineIndexOf (n : Nat) : Option Nat := if n < 4 then some n else none

/-- The parameter of a name and an optional index (R199 step 1). -/
def parameterOf : Nat → Option Nat → Option Parameter
  | 1, some i => (lineIndexOf i).map .replyTimeout
  | 2, some i => (lineIndexOf i).map .staleLimit
  | 3, some i => (lineIndexOf i).map .retryLimit
  | 4, some i => (lineIndexOf i).map .baud
  | 5, some i => (tierOf i).map .confirmDrop
  | 6, some i => (tierOf i).map .ventThreshold
  | 7, some i => (tierOf i).map .confirmTime
  | 8, some i => (gradeOf i).map .attendTime
  | 9, some i => (gradeOf i).map .reminder
  | 10, some i => (gradeOf i).map .maskWidth
  | 11, none => some .autoIncident
  | 12, none => some .autoPlan
  | 13, none => some .classOrder
  | 14, none => some .classMask
  | 15, none => some .outageReminder
  | _, _ => none

/-- The value a parameter holds (R199 step 2). -/
def State.parameter (s : State) : Parameter → ParamValue
  | .replyTimeout l => .number (s.ms.lineOf l).replyTimeout
  | .staleLimit l => .number (s.ms.lineOf l).staleLimit
  | .retryLimit l => .number (s.ms.lineOf l).retryLimit
  | .baud l => .number (s.ms.lineOf l).baud
  | .confirmDrop t => .number (s.ms.tiers.of t).confirmDrop
  | .ventThreshold t => .number (s.ms.tiers.of t).ventThreshold
  | .confirmTime t => .number (s.ms.tiers.of t).confirmTime
  | .attendTime g => .number (s.it.params.of g).attendTime
  | .reminder g => .number (s.it.params.of g).reminder
  | .maskWidth g => .number (s.it.params.of g).maskWidth
  | .autoIncident => .flag s.it.autoIncident
  | .autoPlan => .flag s.it.autoPlan
  | .classOrder => .order s.nq.classOrder
  | .classMask => .mask s.nq.mask
  | .outageReminder => .number s.ou.reminder

/-- A line or tier parameter (R199 step 3). -/
def Parameter.ofModel : Parameter → Bool
  | .replyTimeout _ => true
  | .staleLimit _ => true
  | .retryLimit _ => true
  | .baud _ => true
  | .confirmDrop _ => true
  | .ventThreshold _ => true
  | .confirmTime _ => true
  | _ => false

/-- Write a line record field; the model is then not valid (R9). -/
def State.writeLine (s : State) (l : Nat) (f : LineRec → LineRec) : State :=
  s.withMs { s.ms.setLine l (f (s.ms.lineOf l)) with derived := none }

/-- Write a tier record field; the model is then not valid (R10). -/
def State.writeTier (s : State) (t : Tier) (f : TierRec → TierRec) : State :=
  s.withMs { s.ms with tiers := s.ms.tiers.put (f (s.ms.tiers.of t)) t, derived := none }

/-- Write a grade parameter (R103). -/
def State.writeGrade (s : State) (g : Grade) (f : GradeParams → GradeParams) : State :=
  s.withIt { s.it with params := s.it.params.put (f (s.it.params.of g)) g }

/-- A class order from its list: each class once (R185). -/
def classOrderOf (codes : List Nat) : Option (List NoticeClass) :=
  let classes := codes.filterMap classOf
  if codes.length = 3 ∧ classes.length = 3 ∧ classes.Nodup then some classes else none

/-- A class mask from its three flags, SAFETY, OPERATIONS, SERVICE, in which 1 stands for masked and 0 for unmasked (R185,
R199; DESIGN CHOICE, log entry 30). -/
def maskOf (a b c : Nat) : Option ClassMask := do
  let x ← flagOf a
  let y ← flagOf b
  let z ← flagOf c
  some ⟨x, y, z⟩

/-- The state with a parameter written, none where the value lies outside a range that the table marks RANGE (R199
steps 4 and 5). -/
def State.writeParameter (s : State) (p : Parameter) (value : List Nat) : Option State :=
  let n := value.headD 0
  match p with
  | .replyTimeout l => some (s.writeLine l fun r => { r with replyTimeout := clamp 20 2000 n })
  | .staleLimit l => some (s.writeLine l fun r => { r with staleLimit := clamp 10 6000 n })
  | .retryLimit l => some (s.writeLine l fun r => { r with retryLimit := clamp 1 7 n })
  | .baud l => if baudAllowed n then some (s.writeLine l fun r => { r with baud := n }) else none
  | .confirmDrop t =>
    if n ≤ Config.maxPressure then some (s.writeTier t fun r => { r with confirmDrop := n }) else none
  | .ventThreshold t =>
    if n ≤ Config.maxPressure then some (s.writeTier t fun r => { r with ventThreshold := n }) else none
  | .confirmTime t => some (s.writeTier t fun r => { r with confirmTime := clamp 10 36000 n })
  | .attendTime g => some (s.writeGrade g fun r => { r with attendTime := clampDuration n })
  | .reminder g => some (s.writeGrade g fun r => { r with reminder := clampDuration n })
  | .maskWidth g => if n ≤ 11 then some (s.writeGrade g fun r => { r with maskWidth := n }) else none
  | .autoIncident => (flagOf n).map fun b => s.withIt { s.it with autoIncident := b }
  | .autoPlan => (flagOf n).map fun b => s.withIt { s.it with autoPlan := b }
  | .classOrder => (classOrderOf value.tail).map fun o => s.withNq { s.nq with classOrder := o }
  | .classMask => (maskOf n (value.getD 1 0) (value.getD 2 0)).map fun m => s.withNq { s.nq with mask := m }
  | .outageReminder => some (s.withOu { s.ou with reminder := clampDuration n })

/-- SET_PARAM with the write flag set (R199 steps 3 to 5). -/
def State.setParameter (s : State) (p : Parameter) (value : List Nat) : Answered :=
  if p.ofModel ∧ !s.inConfigure then refuse s .mode
  else match s.writeParameter p value with
    | none => refuse s .range
    | some s' => (s', .ok, .empty)

/-- SET_PARAM (R199). The value's numbers follow the write flag. -/
def State.paramRequest (s : State) (name presence index write : Nat) (value : List Nat) : Answered :=
  match (optionalOf presence index).bind (parameterOf name), flagOf write with
  | some p, some w => if w then s.setParameter p value else (s, .ok, .parameter p (s.parameter p))
  | _, _ => refuse s .range

end Sys2Proof.Machine
end

