-- ==== Sys2Proof/Machine/Operands.lean ====
section
/-! DEFINITION. The operand forms of the requests: the bodies of R202 as lists of fields, and what each request does with
its fields. -/
namespace Sys2Proof.Machine

/-! ## Fields of a body (R202) -/

/-- Split a body into numbers by the widths of its fields, none where the length is not theirs (R193 step 2). -/
def splitFields : List Nat → List Byte → Option (List Nat)
  | [], [] => some []
  | [], _ :: _ => none
  | w :: ws, bytes =>
    if bytes.length < w then none
    else (splitFields ws (bytes.drop w)).map fun ns => numberOf (bytes.take w) :: ns

/-- The body that some numbers make by the widths of its fields (R202). -/
def joinFields : List Nat → List Nat → List Byte
  | w :: ws, n :: ns => bytesOf w n ++ joinFields ws ns
  | _, _ => []

/-- The number at a place of a body. -/
def byteAt (body : List Byte) (place : Nat) : Nat := (body.getD place 0).toNat

/-- The widths of the value of a parameter, by its name (section 11.6): the class order is a list, the class mask three
flags. A name that is not in the table gives no width; whatever stands there is then one field (log entry 11). -/
def valueWidths (name : Nat) (body : List Byte) : List Nat :=
  match name with
  | 1 => [2]
  | 2 => [2]
  | 3 => [1]
  | 4 => [3]
  | 5 => [3]
  | 6 => [3]
  | 7 => [2]
  | 8 => [3]
  | 9 => [3]
  | 10 => [1]
  | 11 => [1]
  | 12 => [1]
  | 13 => 1 :: List.replicate (byteAt body 4) 1
  | 14 => [1, 1, 1]
  | 15 => [3]
  | _ => [body.length - 4]

/-- The widths of the fields of a request body, by its kind (section 11.4, R202, and the CALL body of section 11.10).
`none` for a kind that is not in the catalogue. R202 gives SET_PARAM a length with the write flag set and with it clear; one
whose flag byte is neither has the four bytes of a clear one, so with a value it is answered LENGTH (DEDUCED, log
entry 11). -/
def requestWidths (kind : Byte) (body : List Byte) : Option (List Nat) :=
  match kind.toNat with
  | 0x01 => some []
  | 0x02 => some []
  | 0x03 => some [1]
  | 0x04 => some ([1, 1, 1, 1] ++ if byteAt body 3 = 1 then valueWidths (byteAt body 0) body else [])
  | 0x10 => some []
  | 0x11 => some [2, 1, 2, 1, 3]
  | 0x12 => some [2, 1, 1, 2, 2, 1, 1, 1, 1, 1, 2, 2]
  | 0x13 => some [1, 2, 1, 1, 3, 3, 1, 2, 2, 2, 3, 1, 3, 3, 3, 3]
  | 0x14 => some [1, 1, 1]
  | 0x15 => some [1, 2, 2, 1, 3]
  | 0x16 => some [1, 3, 3, 2]
  | 0x18 => some [2]
  | 0x19 => some [2]
  | 0x1A => some [1]
  | 0x1B => some [1]
  | 0x1C => some [1, 1]
  | 0x20 => some [4, 1, 3, 1, 2]
  | 0x21 => some [2]
  | 0x22 => some [2]
  | 0x23 => some [2]
  | 0x24 => some [2, 1]
  | 0x25 => some [2]
  | 0x30 => some ([2, 1] ++ List.replicate (byteAt body 2) 2 ++ [1])
  | 0x31 => some [1]
  | 0x32 =>
    let bars := byteAt body 1
    some ([1, 1] ++ List.replicate bars 2 ++ [1] ++ List.replicate (byteAt body (2 + 2 * bars)) 2)
  | 0x33 => some [1]
  | 0x34 => some [1]
  | 0x35 => some [1]
  | 0x36 => some [1]
  | 0x40 => some [2, 1, 1, 1]
  | 0x41 => some [2, 1, 1]
  | 0x42 => some [2, 1, 1]
  | 0x43 => some [1]
  | 0x44 => some []
  | 0x45 => some []
  | 0x46 => some [2, 1]
  | 0x47 => some [2, 1, 1]
  | 0x48 => some []
  | 0x50 => some [2]
  | 0x51 => some [1]
  | 0x52 => some [1]
  | 0x60 => some [1]
  | _ => none

/-! ## What a request does with its fields

Each takes the numbers of its body. The last case of each is a list of fields that its widths never give. -/

/-- SET_MODE: the mode asked for (R194). -/
def setModeFields : List Nat → State → Answered
  | [m], s => s.setModeRequest m
  | _, s => refuse s .length

/-- SET_PARAM: name, index, write flag, value (R199). -/
def setParamFields : List Nat → State → Answered
  | name :: presence :: index :: write :: value, s => s.paramRequest name presence index write value
  | _, s => refuse s .length

/-- LOAD_SEGMENT: index, tier, service points, critical consumers, centroid key (R3). -/
def loadSegmentFields : List Nat → State → Answered
  | [i, t, p, c, k], s => s.loadSegment i t p c k
  | _, s => refuse s .length

/-- LOAD_VALVE: index, kind, side A, side B, actuation, outstation, channel, normal position, travel time, recall
answer time (R4, R5). -/
def loadValveFields : List Nat → State → Answered
  | [i, k, pa, a, b, act, ps, st, ch, n, t, r], s => s.loadValve i ⟨k, pa, a, b, act, ps, st, ch, n, t, r⟩
  | _, s => refuse s .length

/-- LOAD_POINT: index, segment, outstation, channel, FS, Z, s, H, P_enter, P_clear, F, N, LA, LW, HW, HA (R6, R7). -/
def loadPointFields : List Nat → State → Answered
  | [i, seg, st, ch, fs, z, sh, h, pe, pc, f, n, la, lw, hw, ha], s =>
    s.loadPoint i ⟨seg, st, ch, fs, signedOf 3 z, sh, h, pe, pc, f, n, la, lw, hw, ha⟩
  | _, s => refuse s .length

/-- LOAD_STATION: index, line, line address (R8). -/
def loadStationFields : List Nat → State → Answered
  | [i, l, a], s => s.loadStation i l a
  | _, s => refuse s .length

/-- LOAD_LINE: line, reply timeout, stale limit, retry limit, baud (R9). -/
def loadLineFields : List Nat → State → Answered
  | [l, rt, sl, rl, b], s => s.loadLine l ⟨rt, sl, rl, b⟩
  | _, s => refuse s .length

/-- LOAD_TIER: tier, confirm drop, vent threshold, confirm time (R10). -/
def loadTierFields : List Nat → State → Answered
  | [t, d, v, c], s => s.loadTier t d v c
  | _, s => refuse s .length

/-- STATION_STATS: outstation, clear flag (R37). -/
def stationStatsFields : List Nat → State → Answered
  | [i, c], s => s.stationStats i c
  | _, s => refuse s .length

/-- CALL: reference, kind, key, segment (R104). -/
def callFields : List Nat → State → Answered
  | [ref, k, key, p, seg], s => s.callRequest ref k key p seg
  | _, s => refuse s .length

/-- FLOOR: serial, floor value (R113). -/
def floorFields : List Nat → State → Answered
  | [n, f], s => s.floorRequest n f
  | _, s => refuse s .length

/-- PLAN: serial, seeds, remote-only (R135). -/
def planFields : List Nat → State → Answered
  | n :: count :: rest, s => s.planRequest n (rest.take count) (rest.getD count 0)
  | _, s => refuse s .length

/-- EXTEND: context, valves to bar, added seeds (R150). -/
def extendFields : List Nat → State → Answered
  | c :: bars :: rest, s => s.extendRequest c (rest.take bars) (rest.drop (bars + 1))
  | _, s => refuse s .length

/-- ORDER: valve, action, priority, one-shot (R68). -/
def orderFields : List Nat → State → Answered
  | [v, a, p, o], s => s.hostOrder v (orderActionOf a) p o
  | _, s => refuse s .length

/-- RECALL: valve, priority, one-shot (R69). -/
def recallFields : List Nat → State → Answered
  | [v, p, o], s => s.hostOrder v (some .recall) p o
  | _, s => refuse s .length

/-- RELEASE_LOCAL: valve, priority, one-shot (R69). -/
def releaseLocalFields : List Nat → State → Answered
  | [v, p, o], s => s.hostOrder v (some .releaseLocal) p o
  | _, s => refuse s .length

/-- VALVE_ENTRY: valve, position (R63). -/
def valveEntryFields : List Nat → State → Answered
  | [v, p], s => s.valveEntryRequest v p
  | _, s => refuse s .length

/-- INHIBIT: valve, inhibit, clear-fault (R65). -/
def inhibitFields : List Nat → State → Answered
  | [v, i, c], s => s.inhibitRequest v i c
  | _, s => refuse s .length

/-- A request with one field. -/
def oneField (f : State → Nat → Answered) : List Nat → State → Answered
  | [n], s => f s n
  | _, s => refuse s .length

/-- ABORT (R79); the end of the last MOVING order lets a pending change to CONFIGURE take effect (R198). -/
def State.abortAndSettle (s : State) (k : Nat) : Answered :=
  let r := s.abortRequest k
  (r.1.settleConfigure, r.2)

end Sys2Proof.Machine
end

