-- ==== Sys2Proof/Machine/Link.lean ====
section
/-! DEFINITION. The Control Room Link (chapter 11): taking a request and answering it, the reset pins, and the meanings
of the link's and the clock's own commands. -/
namespace Sys2Proof.Machine

/-! ## Requests (R192, R193) -/

/-- The kind of the reply to a request (R193): plus 0x80, unchanged for 0x80 and above. -/
def replyKind (kind : Byte) : Byte := if 0x80#8 ≤ kind then kind else kind + 0x80#8

/-- The link sends a reply (R193). -/
def State.reply (kind tag : Byte) (r : Answered) : State :=
  r.1.withCrl { r.1.crl with reply := some ⟨replyKind kind, tag, r.2.1, r.2.2⟩ }

/-- The check of a taken request by the link block, then its owner's handling (R193). -/
def State.handle (s : State) (r : Request) (owner : List Nat → State → Answered) : State :=
  State.reply r.kind r.tag
    (match requestWidths r.kind r.body with
      | none => refuse s .unknownKind
      | some ws =>
        match splitFields ws r.body with
        | none => refuse s .length
        | some fields => owner fields s)

/-! ## Expiries (R177, R179)

An expiry is delivered at its own tick. TICK lists the channels that expire, because the table has a command for each
owner's expiry and R179 leaves their order open; whatever else the part takes next first delivers those that are left (DESIGN
CHOICE, log entry 5). -/

/-- The owner of a channel handles its expiry: an incident slot (R119), an order slot, whose last outcome lets a pending
change to CONFIGURE take effect (R75 to R77, R198), a context (R147), or an outage record (R168). -/
def State.deliverExpiry (s : State) (n : Nat) : State :=
  if n < Config.orderChannel then s.incidentExpiry n
  else if n < Config.contextChannel then (s.orderExpiry (n - Config.orderChannel)).settleConfigure
  else if n < Config.outageChannel then s.contextExpiry (n - Config.contextChannel)
  else s.outageReminder (n - Config.outageChannel)

/-- Deliver one expiry of the last tick, once; a channel that has none to deliver does nothing. -/
def State.takeExpiry (s : State) (n : Nat) : State :=
  if s.tb.due.contains n then (s.withTb { s.tb with due := s.tb.due.erase n }).deliverExpiry n else s

/-- Deliver the expiries of the last tick that are left, in ascending channel. -/
def State.deliverDue (s : State) : State := s.tb.due.foldl State.takeExpiry s

/-! ## Taking a command -/

/-- A request command (R192, log entry 6). The frame at the head of the request list is taken when the command names it;
a frame that finds the list empty is taken at once; any other joins the list, or is discarded where the list holds
four. A part held in reset takes nothing. The expiries of the last tick come first. -/
def State.request (s : State) (r : Request) (owner : List Nat → State → Answered) : State :=
  if s.crl.held then s
  else
    let d := s.deliverDue
    match d.crl.requests with
    | [] => d.handle r owner
    | h :: rest =>
      if h = r then (d.withCrl { d.crl with requests := rest }).handle r owner else d.withCrl (d.crl.join r)

/-- A command that a part held in reset does not take (R190, log entry 21). -/
def State.unlessHeld (s : State) (f : State → State) : State := if s.crl.held then s else f s

/-- A command of the clock, the field or an engine: the expiries of the last tick come first. -/
def State.afterDue (s : State) (f : State → State) : State := s.unlessHeld fun s => f s.deliverDue

/-- The channels of the bank after a tick, and those that expire, in ascending index (R177). -/
def State.tickBank (s : State) : State :=
  let ticked := s.tb.channels.map Channel.tick
  s.withTb
    { time := s.tb.time + 1
      channels := ticked.map (·.1)
      due := s.tb.due ++ (List.range 84).filter fun n => ((ticked.map (·.2)).getD n false) }

/-- The part is held in reset (R190): the reply being sent is cut off and the frame arriving is lost. -/
def State.holdReset (s : State) : State := s.withCrl { s.crl with held := true, receiver := none, reply := none }

/-- Bytes arrive at the receiver of the link (R191). -/
def State.receiveBytes (s : State) (bytes : List Byte) : State := s.withCrl (bytes.foldl Link.receive s.crl)

end Sys2Proof.Machine
end

