-- ==== Sys2Proof/Machine/Replies.lean ====
section
/-! DEFINITION. The bytes of a reply (R193): its contents field by field in the order the owning rule names them, cut to
the longest body where they are too long, and its frame. The field encodings of replies are log entry 13's. -/
namespace Sys2Proof.Machine

/-- A part of a reply body: fixed bytes, or a list with the bytes of its full count and its encoded entries. -/
inductive ReplyPart
  | fixed (bytes : List Byte)
  | list (count : List Byte) (entries : List (List Byte))
deriving DecidableEq, Repr

/-- The bytes of a part. -/
def ReplyPart.bytes : ReplyPart → List Byte
  | .fixed b => b
  | .list count entries => count ++ entries.flatten

/-- Leave out entries from the end of a list, given in reverse, until `excess` bytes are gone: what is left, still in
reverse, and the excess that remains. -/
def dropEntries : Nat → List (List Byte) → List (List Byte) × Nat
  | 0, l => (l, 0)
  | excess, [] => ([], excess)
  | excess + 1, e :: rest => dropEntries (excess + 1 - e.length) rest

/-- Leave out list entries from the end of the last list, then of the list before it (R193). The parts come in
reverse. -/
def cutParts : Nat → List ReplyPart → List ReplyPart
  | _, [] => []
  | excess, .fixed b :: rest => .fixed b :: cutParts excess rest
  | excess, .list count entries :: rest =>
    let r := dropEntries excess entries.reverse
    .list count r.1.reverse :: cutParts r.2 rest

/-- The bytes of some parts. -/
def partsBytes (parts : List ReplyPart) : List Byte := parts.flatMap ReplyPart.bytes

/-- The bytes of a reply body after its result code, cut to fit (R193). -/
def cutToFit (parts : List ReplyPart) : List Byte :=
  partsBytes (cutParts ((partsBytes parts).length + 1 - Config.bodyBytes) parts.reverse).reverse

/-- A list of entries after a count of the given width. -/
def listPart {α : Type} (width : Nat) (f : α → List Byte) (l : List α) : ReplyPart :=
  .list (bytesOf width l.length) (l.map f)

/-- An optional list, its presence byte before its count. -/
def optionalList {α : Type} (width : Nat) (f : α → List Byte) : Option (List α) → List ReplyPart
  | none => [.fixed [0]]
  | some l => [.fixed [1], listPart width f l]

/-- A named value of a Lean enumeration, by its place. -/
def optionalName {α : Type} (place : α → Nat) : Option α → List Byte := optionalBytes fun a => nameByte (place a)

/-- A side A: an index, absent for SOURCE. -/
def Side.bytes : Side → List Byte
  | .source => [0]
  | .segment g => 1 :: bytesOf 2 g

/-- A segment record (R15). -/
def SegmentRec.bytes (r : SegmentRec) : List Byte :=
  nameByte r.tier.ctorIdx ++ bytesOf 2 r.servicePoints ++ bytesOf 1 r.criticalConsumers ++ bytesOf 3 r.centroid.toNat

/-- The parameters of a tier (R10). -/
def TierRec.bytes (r : TierRec) : List Byte :=
  bytesOf 3 r.confirmDrop ++ bytesOf 3 r.ventThreshold ++ bytesOf 2 r.confirmTime

/-- The live fields of a segment (R15). The live fields of one reply stand together behind one presence byte, and the
optional ones among them have presence bytes of their own (DESIGN CHOICE, log entry 13). -/
def SegmentStatus.bytes (x : SegmentStatus) : List Byte :=
  flagByte x.fed ++ nameByte x.condition.ctorIdx ++ nameByte x.service.ctorIdx ++ optionalBytes (bytesOf 1) x.outage
    ++ optionalBytes (bytesOf 1) x.context

/-- A valve record (R15). -/
def ValveRec.bytes (r : ValveRec) : List Byte :=
  nameByte r.kind.ctorIdx ++ r.sideA.bytes ++ bytesOf 2 r.sideB ++ nameByte r.actuation.ctorIdx
    ++ optionalBytes (bytesOf 1) r.station ++ optionalBytes (bytesOf 1) r.channel ++ nameByte r.normal.ctorIdx
    ++ bytesOf 2 r.travelTime ++ bytesOf 2 r.recallTime

/-- The live fields of a valve (R15). -/
def ValveLive.bytes (x : ValveLive) : List Byte :=
  nameByte x.position.ctorIdx ++ nameByte x.settled.ctorIdx ++ optionalName Authority.ctorIdx x.authority
    ++ flagByte x.limitFault ++ flagByte x.travelFault ++ flagByte x.inhibit ++ optionalBytes (bytesOf 1) x.slot

/-- A pressure point record (R16). -/
def PointRec.bytes (r : PointRec) : List Byte :=
  bytesOf 2 r.segment ++ bytesOf 1 r.station ++ bytesOf 1 r.channel ++ bytesOf 3 r.fullScale
    ++ signedBytes 3 r.zeroOffset ++ bytesOf 1 r.filterShift ++ bytesOf 2 r.hysteresis ++ bytesOf 3 r.lowAlarm
    ++ bytesOf 3 r.lowWarn ++ bytesOf 3 r.highWarn ++ bytesOf 3 r.highAlarm ++ bytesOf 2 r.persistEnter
    ++ bytesOf 2 r.persistClear ++ bytesOf 3 r.fallRate ++ bytesOf 1 r.fallCount

/-- The live fields of a pressure point (R16). The pending zone and its deadline share one presence byte (DESIGN CHOICE, log
entry 13). -/
def PointLive.bytes (x : PointLive) : List Byte :=
  nameByte x.state.place ++ optionalName RangeFault.ctorIdx x.state.sub ++ optionalBytes (bytesOf 3) x.filtered
    ++ optionalName Zone.ctorIdx x.zone ++ optionalBytes (signedBytes 3) x.rate
    ++ optionalBytes (fun p : Zone × Time => nameByte p.1.ctorIdx ++ timeBytes p.2) x.pendingZone
    ++ bytesOf 1 x.fallCount ++ flagByte x.fallLatch ++ optionalBytes timeBytes x.lastSample

/-- The parameters of a line (R9). -/
def LineRec.bytes (r : LineRec) : List Byte :=
  bytesOf 2 r.replyTimeout ++ bytesOf 2 r.staleLimit ++ bytesOf 1 r.retryLimit ++ bytesOf 3 r.baud

/-- An entry of a channel map (R16), which is sent as a counted list of the channels in use, each with its record, and not as
eight optional entries (DESIGN CHOICE, log entry 13). -/
def channelBytes (e : Nat × Nat) (width : Nat) : List Byte := bytesOf 1 e.1 ++ bytesOf width e.2

/-- The live fields of an outstation (R16). -/
def StationStatus.bytes (x : StationStatus) : List Byte :=
  nameByte x.health.ctorIdx ++ bytesOf 1 x.counter ++ optionalBytes (bytesOf 1) x.goodRun

/-- The six counters, then the six half flags (R37). -/
def Statistics.bytes (x : Statistics) : List Byte :=
  let all := [x.goodReplies, x.timeouts, x.badReplies, x.busyAnswers, x.rejectAnswers, x.ordersSent]
  all.flatMap (fun c => bytesOf 2 c.value) ++ all.flatMap fun c => flagByte c.half

/-- A call of an incident with its grade (R125). -/
def CallRec.bytes (c : CallRec) : List Byte :=
  bytesOf 4 c.reference.toNat ++ nameByte c.kind.ctorIdx ++ nameByte c.kind.grade.ctorIdx ++ bytesOf 3 c.key.toNat
    ++ optionalBytes (bytesOf 2) c.segment ++ timeBytes c.taken

/-- The fields of an incident before its call list (section 6.1). -/
def Incident.headBytes (i : Incident) : List Byte :=
  bytesOf 2 i.serial ++ nameByte i.cls.ctorIdx ++ nameByte i.source.place ++ nameByte i.state.ctorIdx
    ++ nameByte i.grade.ctorIdx ++ optionalName Grade.ctorIdx i.floor ++ flagByte i.urgent ++ bytesOf 3 i.key.toNat
    ++ bytesOf 1 i.maskWidth ++ optionalBytes (bytesOf 2) i.segment

/-- The fields of an incident after its call list (section 6.1). -/
def Incident.tailBytes (i : Incident) : List Byte :=
  optionalBytes (bytesOf 2) i.linked ++ optionalBytes (bytesOf 1) i.context ++ bytesOf 1 i.stage ++ timeBytes i.created
    ++ optionalBytes (bytesOf 1) i.source.point

/-- The state of a channel (R125, R154, R174): STOPPED or RUNNING, SINGLE or PERIODIC, prescale, reload, remaining time.
The bytes are the model's: STOPPED is 1 and RUNNING 2 (DESIGN CHOICE, log entry 13). -/
def channelState (c : ChannelReport) : List Byte :=
  nameByte (if c.running then 1 else 0) ++ nameByte c.mode.ctorIdx ++ bytesOf 1 c.prescale ++ bytesOf 2 c.reload
    ++ optionalBytes (bytesOf 3) c.remaining

/-- A boundary entry (section 7.1). -/
def BoundaryEntry.bytes (e : BoundaryEntry) : List Byte :=
  bytesOf 2 e.valve ++ nameByte e.action.ctorIdx ++ nameByte e.status.ctorIdx ++ flagByte e.byContext

/-- An outcome with the refusal code of REFUSED. -/
def OrderOutcome.bytes (o : OrderOutcome) : List Byte :=
  nameByte o.place ++ optionalBytes (fun c : ResultCode => bytesOf 1 c.value) o.code

/-- A reopen entry (section 7.1). -/
def ReopenEntry.bytes (e : ReopenEntry) : List Byte :=
  bytesOf 2 e.valve ++ optionalName ReopenRoute.ctorIdx e.route ++ nameByte e.status.ctorIdx
    ++ optionalBytes OrderOutcome.bytes e.lastOutcome

/-- A point of the decay set with its current f (R154). -/
def decayBytes (e : DecayPoint × Option Nat) : List Byte :=
  bytesOf 1 e.1.point ++ bytesOf 3 e.1.reference ++ flagByte e.1.decayed ++ optionalBytes (bytesOf 3) e.2

/-- The parts of a context record (R154), in the order of section 7.1. -/
def Context.parts (x : Context) (current : List (Option Nat)) : List ReplyPart :=
  [.fixed (nameByte x.state.ctorIdx ++ bytesOf 2 x.searchNumber ++ bytesOf 2 x.incident),
   listPart 1 (bytesOf 2) x.seeds, listPart 1 (bytesOf 2) x.extensionSeeds,
   .fixed (flagByte x.remoteOnly ++ flagByte x.executed ++ flagByte x.automatic),
   listPart 1 (bytesOf 2) x.barred, listPart 1 (bytesOf 2) x.zone, listPart 1 BoundaryEntry.bytes x.boundary,
   listPart 1 (bytesOf 2) x.interiorClosed, listPart 2 (bytesOf 2) x.collateral,
   .fixed (x.sums.bytes ++ bytesOf 2 x.revision ++ optionalBytes SearchFailure.bytes x.failure),
   listPart 2 decayBytes (x.decaySet.zip current), listPart 1 (bytesOf 2) x.suspects,
   .fixed (flagByte x.unverified ++ flagByte x.operatorConfirmed)]
    ++ optionalList 1 ReopenEntry.bytes (if x.state = .releasing then some x.reopen else none)

/-- A live order (R67). -/
def Order.bytes (o : Order) : List Byte :=
  bytesOf 2 o.valve ++ nameByte o.action.ctorIdx ++ bytesOf 1 o.priority ++ o.origin.bytes ++ flagByte o.oneShot
    ++ bytesOf 1 o.attempts ++ flagByte o.abortRequested ++ timeBytes o.waitingTime

/-- The state of a slot: FREE, WAITING, SENT, MOVING (R67). -/
def slotPlace : Option Order → Nat
  | none => 0
  | some o => o.stage.ctorIdx + 1

/-- A slot in READ_ORDERS (R86): its state; its order behind one presence byte; the remaining time, with a presence byte of
its own, and the gate of its channel (open is 1, closed 2) behind another (DESIGN CHOICE, log entry 13). -/
def SlotReport.bytes (x : SlotReport) : List Byte :=
  nameByte (slotPlace x.order) ++ optionalBytes Order.bytes x.order
    ++ optionalBytes (fun c : Option Nat × Bool => optionalBytes (bytesOf 3) c.1 ++ nameByte (if c.2 then 0 else 1))
      x.channel

/-- One context's part of the waiting list (R86). -/
def WaitReport.bytes (x : WaitReport) : List Byte := bytesOf 1 x.entries ++ optionalBytes (bytesOf 2) x.oldest

/-- An entry of an outage record's segment list (R172). -/
def outageEntryBytes (e : OutageEntry × Option ServiceState) : List Byte :=
  bytesOf 2 e.1.segment ++ nameByte e.1.cause.ctorIdx ++ timeBytes e.1.joined ++ optionalName ServiceState.ctorIdx e.2

/-- The fewest whole bytes that hold the range of a parameter that is one number. -/
def Parameter.width : Parameter → Nat
  | .replyTimeout _ => 2
  | .staleLimit _ => 2
  | .retryLimit _ => 1
  | .baud _ => 3
  | .confirmDrop _ => 3
  | .ventThreshold _ => 3
  | .confirmTime _ => 2
  | .attendTime _ => 3
  | .reminder _ => 3
  | .outageReminder => 3
  | _ => 1

/-- The value of a parameter. -/
def ParamValue.bytes (p : ParamValue) (width : Nat) : List Byte :=
  match p with
  | .number n => bytesOf width n
  | .flag b => flagByte b
  | .order l => countedBytes classByte l
  | .mask m => flagByte m.safety ++ flagByte m.operations ++ flagByte m.service

/-- A failure report (R13). -/
def FailureReport.bytes (r : FailureReport) : List Byte :=
  nameByte r.kind.ctorIdx ++ optionalBytes (bytesOf 2) r.index ++ nameByte r.reason.ctorIdx
    ++ optionalBytes (bytesOf 2) r.related ++ optionalBytes (bytesOf 2) r.count

/-- The figures of a class in STATUS (R201). -/
def ClassStatus.bytes (x : ClassStatus) : List Byte :=
  bytesOf 1 x.held ++ bytesOf 4 x.dropped.toNat ++ flagByte x.overflow

/-- The contents of STATUS (R201). -/
def StatusReport.bytes (x : StatusReport) : List Byte :=
  nameByte x.mode.ctorIdx ++ optionalName Mode.ctorIdx x.pendingMode ++ flagByte x.modelValid
    ++ nameByte x.cause.ctorIdx ++ timeBytes x.time ++ x.safety.bytes ++ x.operations.bytes ++ x.service.bytes
    ++ flagByte x.hold ++ bytesOf 1 x.openIncidents ++ bytesOf 1 x.busyContexts ++ bytesOf 1 x.activeOutages
    ++ bytesOf 1 x.freeSlots ++ bytesOf 1 x.waitingList ++ bytesOf 4 x.linkErrors.toNat

/-- Where a call went (R107, R108, R115): serial or record, the disposition, and its figure. -/
def Disposition.bytes : Disposition → List Byte
  | .attached n calls => bytesOf 2 n ++ nameByte 0 ++ bytesOf 1 calls
  | .opened n linked => bytesOf 2 n ++ nameByte 1 ++ optionalBytes (bytesOf 2) linked
  | .outage r => nameByte 2 ++ bytesOf 1 r

/-- The figures of a class in FETCH: 14 bytes (R186). -/
def FetchFigures.bytes (x : FetchFigures) : List Byte :=
  bytesOf 1 x.held ++ flagByte x.overflow ++ bytesOf 4 x.generated.toNat ++ bytesOf 4 x.fetched.toNat
    ++ bytesOf 4 x.dropped.toNat

/-- The parts of the contents of a reply. The manual fixes FETCH's bytes only; the grouping of fields behind presence bytes and
the widths of counts are the model's (DESIGN CHOICE, log entry 13). -/
def ReplyBody.parts : ReplyBody → List ReplyPart
  | .empty => []
  | .ident part rev site rate cause mode t =>
    [.fixed (bytesOf 2 part ++ bytesOf 1 rev ++ bytesOf 1 site.toNat ++ bytesOf 3 rate ++ nameByte cause.ctorIdx
      ++ nameByte mode.ctorIdx ++ timeBytes t)]
  | .status r => [.fixed r.bytes]
  | .failure r => [.fixed r.bytes]
  | .parameter p v => [.fixed (v.bytes p.width)]
  | .segment r t adj pts live =>
    [.fixed (r.bytes ++ t.bytes)] ++ optionalList 1 (bytesOf 2) adj ++ optionalList 1 (bytesOf 1) pts
      ++ [.fixed (optionalBytes SegmentStatus.bytes live)]
  | .valve r live => [.fixed (r.bytes ++ optionalBytes ValveLive.bytes live)]
  | .point r live => [.fixed (r.bytes ++ optionalBytes PointLive.bytes live)]
  | .station r l pm vm live =>
    [.fixed (bytesOf 1 r.line ++ bytesOf 1 r.address ++ l.bytes)] ++ optionalList 1 (channelBytes · 1) pm
      ++ optionalList 1 (channelBytes · 2) vm ++ [.fixed (optionalBytes StationStatus.bytes live)]
  | .statistics x => [.fixed x.bytes]
  | .call d => [.fixed d.bytes]
  | .grade g => [.fixed (nameByte g.ctorIdx)]
  | .incident i channel =>
    [.fixed i.headBytes, listPart 1 CallRec.bytes i.calls, .fixed (i.tailBytes ++ channelState channel)]
  | .context c => [.fixed (bytesOf 1 c)]
  | .executed l st =>
    [listPart 1 (fun e : Nat × CloseAction × EntryStatus => bytesOf 2 e.1 ++ nameByte e.2.1.ctorIdx
      ++ nameByte e.2.2.ctorIdx) l, .fixed (nameByte st.ctorIdx)]
  | .released l st => [listPart 1 ReopenEntry.bytes l, .fixed (nameByte st.ctorIdx)]
  | .contextRecord x current channel => x.parts current ++ [.fixed (channelState channel)]
  | .slot k => [.fixed (bytesOf 1 k)]
  | .doneAlready => [.fixed (OrderOutcome.bytes .doneAlready)]
  | .flags i l t => [.fixed (flagByte i ++ flagByte l ++ flagByte t)]
  | .orders slots hold n l =>
    [.fixed (slots.flatMap SlotReport.bytes ++ flagByte hold ++ bytesOf 1 n ++ l.flatMap WaitReport.bytes)]
  | .relit n off count => [.fixed (bytesOf 1 n ++ bytesOf 4 off ++ bytesOf 8 count)]
  | .outage r states cm rem =>
    [.fixed (nameByte r.state.ctorIdx), listPart 2 outageEntryBytes (r.segments.zip states),
     .fixed (bytesOf 8 r.affected ++ bytesOf 8 r.relit ++ bytesOf 4 r.offCount ++ bytesOf 3 r.criticalOff
       ++ bytesOf 4 r.peakOff ++ bytesOf 2 r.noGas ++ bytesOf 8 r.accumulator ++ bytesOf 4 cm
       ++ flagByte r.capacityMerged ++ optionalBytes timeBytes r.created ++ optionalBytes timeBytes r.closedAt
       ++ optionalBytes (bytesOf 3) rem)]
  | .fetch a b c l =>
    [.fixed (bytesOf 1 l.length ++ a.bytes ++ b.bytes ++ c.bytes ++ l.flatMap Notice.bytes)]

/-- The body of a reply: the result code, then the contents, cut to fit (R193). -/
def Reply.bodyBytes (r : Reply) : List Byte := .ofNat 8 r.code.value :: cutToFit r.body.parts

/-- The frame of a reply (R193, section 11.10). -/
def Reply.frame (r : Reply) : List Byte := linkFrame r.kind r.tag r.bodyBytes

end Sys2Proof.Machine
end

