-- ==== Sys2Proof/Machine/Events.lean ====
section
/-! DEFINITION. The meanings of the commands that are not requests: reset, the clock and its expiries, the link's
receiver, the field lines and the Model Engine. -/
namespace Sys2Proof.Machine

/-! ## Reset (R190) -/

/-- POWER_ON: power arrives and the reset is released (R190). -/
def execPowerOn (rate : BitVec 2) (site : BitVec 4) (s : State) : Host.Outcome State Fault Refusal :=
  .next (State.afterReset .powerOn rate site s.pending)

/-- RESET_PIN: the reset pin alone is released (R190). -/
def execResetPin (rate : BitVec 2) (site : BitVec 4) (s : State) : Host.Outcome State Fault Refusal :=
  .next (State.afterReset .resetPin rate site s.pending)

/-- HELD_IN_RESET: the part is held in reset (R190). -/
def execHeldInReset (s : State) : Host.Outcome State Fault Refusal := .next s.holdReset

/-! ## The clock and the expiries (R177, R179) -/

/-- TICK: network time advances, and every running channel with an open gate counts (R177). -/
def execTick (s : State) : Host.Outcome State Fault Refusal := .next (s.afterDue State.tickBank)

/-- INCIDENT_DEADLINE_EXPIRY (R119). -/
def execIncidentDeadlineExpiry (slot : Fin 48) (s : State) : Host.Outcome State Fault Refusal :=
  .next (s.unlessHeld fun s => s.takeExpiry slot)

/-- ORDER_CHANNEL_EXPIRY (R75 to R77, R198). -/
def execOrderChannelExpiry (slot : Fin 12) (s : State) : Host.Outcome State Fault Refusal :=
  .next (s.unlessHeld fun s => s.takeExpiry (Config.orderChannel + slot))

/-- CONTEXT_CHANNEL_EXPIRY (R147). -/
def execContextChannelExpiry (ctx : Fin 8) (s : State) : Host.Outcome State Fault Refusal :=
  .next (s.unlessHeld fun s => s.takeExpiry (Config.contextChannel + ctx))

/-- OUTAGE_CHANNEL_EXPIRY (R168). -/
def execOutageChannelExpiry (record : Fin 16) (s : State) : Host.Outcome State Fault Refusal :=
  .next (s.unlessHeld fun s => s.takeExpiry (Config.outageChannel + record))

/-! ## The link's receiver (R191)

It touches no state that the owner of a channel acts on, so the expiries of the last tick may come before or after. -/

/-- CRL_FRAME_RECEIVED: bytes arrive, and each frame they complete is judged (R191, R192). -/
def execCrlFrameReceived (bytes : List Byte) (s : State) : Host.Outcome State Fault Refusal :=
  .next (s.unlessHeld fun s => s.receiveBytes bytes)

/-- CRL_GAP_TIMEOUT: the gap ends the frame being assembled (R191). -/
def execCrlGapTimeout (s : State) : Host.Outcome State Fault Refusal :=
  .next (s.unlessHeld fun s => s.withCrl s.crl.gap)

/-! ## The field lines (chapter 2) -/

/-- STATION_REPORT: a frame arrives in the reply window of a scan (R24, R34). -/
def execStationReport (line : Fin 4) (bytes : List Byte) (order : DeliveryOrder) (s : State) :
    Host.Outcome State Fault Refusal :=
  .next (s.afterDue fun s => s.lineBytes line bytes order)

/-- ORDER_ANSWER: a frame arrives in the reply window of a VALVE ORDER (R24, R27). -/
def execOrderAnswer (line : Fin 4) (bytes : List Byte) (order : DeliveryOrder) (s : State) :
    Host.Outcome State Fault Refusal :=
  .next (s.afterDue fun s => s.lineBytes line bytes order)

/-- BAD_REPLY: a frame arrives that R24 judges bad. -/
def execBadReply (line : Fin 4) (bytes : List Byte) (order : DeliveryOrder) (s : State) :
    Host.Outcome State Fault Refusal :=
  .next (s.afterDue fun s => s.lineBytes line bytes order)

/-- REPLY_TIMEOUT: the reply timeout runs out (R23). -/
def execReplyTimeout (line : Fin 4) (order : DeliveryOrder) (s : State) : Host.Outcome State Fault Refusal :=
  .next (s.afterDue fun s => s.endTransaction line .timeout order)

/-- QUIET_WAIT_END: the quiet wait of a line ends (R20). -/
def execQuietWaitEnd (line : Fin 4) (s : State) : Host.Outcome State Fault Refusal :=
  .next (s.afterDue fun s => s.endQuiet line)

/-! ## The Model Engine (chapter 5) -/

/-- Deliver a fed change where a segment's flag differs from its old one (R93). -/
def State.deliverFedChange (old : Table Bool) (s : State) (e : Nat × Bool) : State :=
  if old.get e.1 = some e.2 then s else s.deliverFed e.1 e.2

/-- The completion of a trace with its passing valves and its rerun flag (R93). -/
def State.completeTrace (s : State) (passing : List Nat) (rerun : Bool) : State :=
  let fed := s.ms.fedSet passing
  let old := s.me.fed
  let flags := s.ms.segments.mapRows fun seg _ => fed.contains seg
  let s := flags.rows.foldl (State.deliverFedChange old) (s.withMe { s.me with fed := flags })
  (s.withMe { s.me with state := .idle, pendingTrace := s.me.pendingTrace || rerun }).chooseJob

/-- A trace completes, if one runs. -/
def State.endTrace (s : State) : State :=
  match s.me.state with
  | .tracing passing rerun => s.completeTrace passing rerun
  | _ => s

/-- TRACE_COMPLETE (R93). -/
def execTraceComplete (s : State) : Host.Outcome State Fault Refusal := .next (s.afterDue State.endTrace)

/-- The running search examines its next valve (R131), in the ZONE phase and while it has not failed. -/
def State.stepSearch (s : State) : State :=
  match s.me.state with
  | .searching r =>
    match r.phase, r.failure, s.nextExamined r with
    | .zone, none, some p =>
      s.setEngine (.searching (s.examine { r with segmentAt := p.1, valveAt := p.2.1 + 1 } p.2.2.1 p.2.2.2))
    | _, _, _ => s
  | _ => s

/-- SEARCH_STEP (R131). -/
def execSearchStep (s : State) : Host.Outcome State Fault Refusal := .next (s.afterDue State.stepSearch)

/-- The valves the collateral trace judges passing (R98): those of R91, but for the boundary. -/
def State.collateralPassing (s : State) (r : Search) : List Nat :=
  s.passingValves.filter fun v => !r.boundary.any fun b => b.1 == v

/-- The ZONE phase finds the zone complete: no valve is left to examine (R95, R98). -/
def State.endZone (s : State) : State :=
  match s.me.state with
  | .searching r =>
    match r.phase, r.failure, s.nextExamined r with
    | .zone, none, none => s.setEngine (.searching { r with phase := .collateral (s.collateralPassing r) })
    | _, _, _ => s
  | _ => s

/-- SEARCH_ZONE_COMPLETE (R98). -/
def execSearchZoneComplete (s : State) : Host.Outcome State Fault Refusal := .next (s.afterDue State.endZone)

/-- The result a search completes with, none while it has not come to its end (R95, R97). -/
def State.searchResult (s : State) (r : Search) : Option SearchResult :=
  match r.failure, r.phase with
  | some f, _ => some (.failure f)
  | none, .collateral passing => some (.success (s.planOf r passing))
  | none, .zone => none

/-- The completion of a search with its result (R97). -/
def State.completeSearch (s : State) (r : Search) (result : SearchResult) : State :=
  if r.rerun then (s.withMe { s.me with state := .idle, queue := r.context :: s.me.queue }).chooseJob
  else (((s.setEngine .idle).takeResult r.context r.number result)).chooseJob

/-- A search completes, if one has come to its end. -/
def State.endSearch (s : State) : State :=
  match s.me.state with
  | .searching r =>
    match s.searchResult r with
    | some result => s.completeSearch r result
    | none => s
  | _ => s

/-- SEARCH_COMPLETE (R97). -/
def execSearchComplete (s : State) : Host.Outcome State Fault Refusal := .next (s.afterDue State.endSearch)

end Sys2Proof.Machine
end

