-- ==== Sys2Proof/Machine/Requests.lean ====
section
/-! DEFINITION. The meanings of the requests of the catalogue (section 11.4): each is its kind byte, the check of its
body by the link (R193), and its owner's rule. -/
namespace Sys2Proof.Machine

/-- UNKNOWN_KIND: a request whose kind is not in the catalogue (R193). A kind of the catalogue is another row of the
table, and the command is refused. -/
def execUnknownKind (kind tag : Byte) (body : List Byte) (s : State) : Host.Outcome State Fault Refusal :=
  match requestWidths kind body with
  | none => .next (s.request ⟨kind, tag, body⟩ fun _ s => refuse s .unknownKind)
  | some _ => .refused .wrongRow

/-- IDENT (R200). -/
def execIdent (tag : Byte) (body : List Byte) (s : State) : Host.Outcome State Fault Refusal :=
  .next (s.request ⟨0x01#8, tag, body⟩ (fun _ s => s.identRequest))

/-- STATUS (R201). -/
def execStatus (tag : Byte) (body : List Byte) (s : State) : Host.Outcome State Fault Refusal :=
  .next (s.request ⟨0x02#8, tag, body⟩ (fun _ s => s.statusRequest))

/-- SET_MODE (R194). -/
def execSetMode (tag : Byte) (body : List Byte) (s : State) : Host.Outcome State Fault Refusal :=
  .next (s.request ⟨0x03#8, tag, body⟩ setModeFields)

/-- SET_PARAM (R199). -/
def execSetParam (tag : Byte) (body : List Byte) (s : State) : Host.Outcome State Fault Refusal :=
  .next (s.request ⟨0x04#8, tag, body⟩ setParamFields)

/-- MODEL_CLEAR (R11). -/
def execModelClear (tag : Byte) (body : List Byte) (s : State) : Host.Outcome State Fault Refusal :=
  .next (s.request ⟨0x10#8, tag, body⟩ (fun _ s => s.modelClear))

/-- LOAD_SEGMENT (R3). -/
def execLoadSegment (tag : Byte) (body : List Byte) (s : State) : Host.Outcome State Fault Refusal :=
  .next (s.request ⟨0x11#8, tag, body⟩ loadSegmentFields)

/-- LOAD_VALVE (R4, R5). -/
def execLoadValve (tag : Byte) (body : List Byte) (s : State) : Host.Outcome State Fault Refusal :=
  .next (s.request ⟨0x12#8, tag, body⟩ loadValveFields)

/-- LOAD_POINT (R6, R7). -/
def execLoadPoint (tag : Byte) (body : List Byte) (s : State) : Host.Outcome State Fault Refusal :=
  .next (s.request ⟨0x13#8, tag, body⟩ loadPointFields)

/-- LOAD_STATION (R8). -/
def execLoadStation (tag : Byte) (body : List Byte) (s : State) : Host.Outcome State Fault Refusal :=
  .next (s.request ⟨0x14#8, tag, body⟩ loadStationFields)

/-- LOAD_LINE (R9). -/
def execLoadLine (tag : Byte) (body : List Byte) (s : State) : Host.Outcome State Fault Refusal :=
  .next (s.request ⟨0x15#8, tag, body⟩ loadLineFields)

/-- LOAD_TIER (R10). -/
def execLoadTier (tag : Byte) (body : List Byte) (s : State) : Host.Outcome State Fault Refusal :=
  .next (s.request ⟨0x16#8, tag, body⟩ loadTierFields)

/-- READ_SEGMENT (R15). -/
def execReadSegment (tag : Byte) (body : List Byte) (s : State) : Host.Outcome State Fault Refusal :=
  .next (s.request ⟨0x18#8, tag, body⟩ (oneField State.readSegment))

/-- READ_VALVE (R15). -/
def execReadValve (tag : Byte) (body : List Byte) (s : State) : Host.Outcome State Fault Refusal :=
  .next (s.request ⟨0x19#8, tag, body⟩ (oneField State.readValve))

/-- READ_POINT (R16). -/
def execReadPoint (tag : Byte) (body : List Byte) (s : State) : Host.Outcome State Fault Refusal :=
  .next (s.request ⟨0x1A#8, tag, body⟩ (oneField State.readPoint))

/-- READ_STATION (R16). -/
def execReadStation (tag : Byte) (body : List Byte) (s : State) : Host.Outcome State Fault Refusal :=
  .next (s.request ⟨0x1B#8, tag, body⟩ (oneField State.readStation))

/-- STATION_STATS (R37). -/
def execStationStats (tag : Byte) (body : List Byte) (s : State) : Host.Outcome State Fault Refusal :=
  .next (s.request ⟨0x1C#8, tag, body⟩ stationStatsFields)

/-- CALL (R104). -/
def execCall (tag : Byte) (body : List Byte) (s : State) : Host.Outcome State Fault Refusal :=
  .next (s.request ⟨0x20#8, tag, body⟩ callFields)

/-- ATTEND (R120). -/
def execAttend (tag : Byte) (body : List Byte) (s : State) : Host.Outcome State Fault Refusal :=
  .next (s.request ⟨0x21#8, tag, body⟩ (oneField State.attendRequest))

/-- MADE_SAFE (R121). -/
def execMadeSafe (tag : Byte) (body : List Byte) (s : State) : Host.Outcome State Fault Refusal :=
  .next (s.request ⟨0x22#8, tag, body⟩ (oneField State.madeSafeRequest))

/-- CLOSE_INCIDENT (R122). -/
def execCloseIncident (tag : Byte) (body : List Byte) (s : State) : Host.Outcome State Fault Refusal :=
  .next (s.request ⟨0x23#8, tag, body⟩ (oneField State.closeIncidentRequest))

/-- FLOOR (R113). -/
def execFloor (tag : Byte) (body : List Byte) (s : State) : Host.Outcome State Fault Refusal :=
  .next (s.request ⟨0x24#8, tag, body⟩ floorFields)

/-- READ_INCIDENT (R125). -/
def execReadIncident (tag : Byte) (body : List Byte) (s : State) : Host.Outcome State Fault Refusal :=
  .next (s.request ⟨0x25#8, tag, body⟩ (oneField State.readIncident))

/-- PLAN (R135). -/
def execPlan (tag : Byte) (body : List Byte) (s : State) : Host.Outcome State Fault Refusal :=
  .next (s.request ⟨0x30#8, tag, body⟩ planFields)

/-- EXECUTE (R139). -/
def execExecute (tag : Byte) (body : List Byte) (s : State) : Host.Outcome State Fault Refusal :=
  .next (s.request ⟨0x31#8, tag, body⟩ (oneField State.executeRequest))

/-- EXTEND (R150). -/
def execExtend (tag : Byte) (body : List Byte) (s : State) : Host.Outcome State Fault Refusal :=
  .next (s.request ⟨0x32#8, tag, body⟩ extendFields)

/-- CONFIRM (R148). -/
def execConfirm (tag : Byte) (body : List Byte) (s : State) : Host.Outcome State Fault Refusal :=
  .next (s.request ⟨0x33#8, tag, body⟩ (oneField State.confirmRequest))

/-- RELEASE (R151). -/
def execRelease (tag : Byte) (body : List Byte) (s : State) : Host.Outcome State Fault Refusal :=
  .next (s.request ⟨0x34#8, tag, body⟩ (oneField State.releaseRequest))

/-- CANCEL (R137). -/
def execCancel (tag : Byte) (body : List Byte) (s : State) : Host.Outcome State Fault Refusal :=
  .next (s.request ⟨0x35#8, tag, body⟩ (oneField State.cancelRequest))

/-- READ_CONTEXT (R154). -/
def execReadContext (tag : Byte) (body : List Byte) (s : State) : Host.Outcome State Fault Refusal :=
  .next (s.request ⟨0x36#8, tag, body⟩ (oneField State.readContext))

/-- ORDER (R68). -/
def execOrder (tag : Byte) (body : List Byte) (s : State) : Host.Outcome State Fault Refusal :=
  .next (s.request ⟨0x40#8, tag, body⟩ orderFields)

/-- RECALL (R69). -/
def execRecall (tag : Byte) (body : List Byte) (s : State) : Host.Outcome State Fault Refusal :=
  .next (s.request ⟨0x41#8, tag, body⟩ recallFields)

/-- RELEASE_LOCAL (R69). -/
def execReleaseLocal (tag : Byte) (body : List Byte) (s : State) : Host.Outcome State Fault Refusal :=
  .next (s.request ⟨0x42#8, tag, body⟩ releaseLocalFields)

/-- ABORT (R79). -/
def execAbort (tag : Byte) (body : List Byte) (s : State) : Host.Outcome State Fault Refusal :=
  .next (s.request ⟨0x43#8, tag, body⟩ (oneField State.abortAndSettle))

/-- HOLD (R80). -/
def execHold (tag : Byte) (body : List Byte) (s : State) : Host.Outcome State Fault Refusal :=
  .next (s.request ⟨0x44#8, tag, body⟩ (fun _ s => s.holdRequest))

/-- RELEASE_HOLD (R81). -/
def execReleaseHold (tag : Byte) (body : List Byte) (s : State) : Host.Outcome State Fault Refusal :=
  .next (s.request ⟨0x45#8, tag, body⟩ (fun _ s => s.releaseHoldRequest))

/-- VALVE_ENTRY (R63). -/
def execValveEntry (tag : Byte) (body : List Byte) (s : State) : Host.Outcome State Fault Refusal :=
  .next (s.request ⟨0x46#8, tag, body⟩ valveEntryFields)

/-- INHIBIT (R65). -/
def execInhibit (tag : Byte) (body : List Byte) (s : State) : Host.Outcome State Fault Refusal :=
  .next (s.request ⟨0x47#8, tag, body⟩ inhibitFields)

/-- READ_ORDERS (R86). -/
def execReadOrders (tag : Byte) (body : List Byte) (s : State) : Host.Outcome State Fault Refusal :=
  .next (s.request ⟨0x48#8, tag, body⟩ (fun _ s => s.readOrders))

/-- RELIGHT_DONE (R160). -/
def execRelightDone (tag : Byte) (body : List Byte) (s : State) : Host.Outcome State Fault Refusal :=
  .next (s.request ⟨0x50#8, tag, body⟩ (oneField State.relightDone))

/-- READ_OUTAGE (R172). -/
def execReadOutage (tag : Byte) (body : List Byte) (s : State) : Host.Outcome State Fault Refusal :=
  .next (s.request ⟨0x51#8, tag, body⟩ (oneField State.readOutage))

/-- DISCARD_OUTAGE (R171). -/
def execDiscardOutage (tag : Byte) (body : List Byte) (s : State) : Host.Outcome State Fault Refusal :=
  .next (s.request ⟨0x52#8, tag, body⟩ (oneField State.discardOutage))

/-- FETCH (R186). -/
def execFetch (tag : Byte) (body : List Byte) (s : State) : Host.Outcome State Fault Refusal :=
  .next (s.request ⟨0x60#8, tag, body⟩ (oneField State.fetchRequest))

end Sys2Proof.Machine
end

