-- ==== Sys2Proof/Machine/Dispatch.lean ====
section
/-! DEFINITION. Every command to its meaning, one arm for each constructor of Instr. -/
namespace Sys2Proof.Machine

/-- What a command does to everything but the queue of waiting commands. -/
def exec (i : Instr) (s : State) : Host.Outcome State Fault Refusal :=
  match i with
  | .powerOn rate site => Sys2Proof.Machine.execPowerOn rate site s
  | .resetPin rate site => Sys2Proof.Machine.execResetPin rate site s
  | .tick => Sys2Proof.Machine.execTick s
  | .incidentDeadlineExpiry slot => Sys2Proof.Machine.execIncidentDeadlineExpiry slot s
  | .orderChannelExpiry slot => Sys2Proof.Machine.execOrderChannelExpiry slot s
  | .contextChannelExpiry ctx => Sys2Proof.Machine.execContextChannelExpiry ctx s
  | .outageChannelExpiry record => Sys2Proof.Machine.execOutageChannelExpiry record s
  | .crlFrameReceived bytes => Sys2Proof.Machine.execCrlFrameReceived bytes s
  | .crlGapTimeout => Sys2Proof.Machine.execCrlGapTimeout s
  | .stationReport line bytes order => Sys2Proof.Machine.execStationReport line bytes order s
  | .orderAnswer line bytes order => Sys2Proof.Machine.execOrderAnswer line bytes order s
  | .badReply line bytes order => Sys2Proof.Machine.execBadReply line bytes order s
  | .replyTimeout line order => Sys2Proof.Machine.execReplyTimeout line order s
  | .quietWaitEnd line => Sys2Proof.Machine.execQuietWaitEnd line s
  | .traceComplete => Sys2Proof.Machine.execTraceComplete s
  | .searchStep => Sys2Proof.Machine.execSearchStep s
  | .searchZoneComplete => Sys2Proof.Machine.execSearchZoneComplete s
  | .searchComplete => Sys2Proof.Machine.execSearchComplete s
  | .unknownKind kind tag body => Sys2Proof.Machine.execUnknownKind kind tag body s
  | .ident tag body => Sys2Proof.Machine.execIdent tag body s
  | .status tag body => Sys2Proof.Machine.execStatus tag body s
  | .setMode tag body => Sys2Proof.Machine.execSetMode tag body s
  | .setParam tag body => Sys2Proof.Machine.execSetParam tag body s
  | .modelClear tag body => Sys2Proof.Machine.execModelClear tag body s
  | .loadSegment tag body => Sys2Proof.Machine.execLoadSegment tag body s
  | .loadValve tag body => Sys2Proof.Machine.execLoadValve tag body s
  | .loadPoint tag body => Sys2Proof.Machine.execLoadPoint tag body s
  | .loadStation tag body => Sys2Proof.Machine.execLoadStation tag body s
  | .loadLine tag body => Sys2Proof.Machine.execLoadLine tag body s
  | .loadTier tag body => Sys2Proof.Machine.execLoadTier tag body s
  | .readSegment tag body => Sys2Proof.Machine.execReadSegment tag body s
  | .readValve tag body => Sys2Proof.Machine.execReadValve tag body s
  | .readPoint tag body => Sys2Proof.Machine.execReadPoint tag body s
  | .readStation tag body => Sys2Proof.Machine.execReadStation tag body s
  | .stationStats tag body => Sys2Proof.Machine.execStationStats tag body s
  | .call tag body => Sys2Proof.Machine.execCall tag body s
  | .attend tag body => Sys2Proof.Machine.execAttend tag body s
  | .madeSafe tag body => Sys2Proof.Machine.execMadeSafe tag body s
  | .closeIncident tag body => Sys2Proof.Machine.execCloseIncident tag body s
  | .floor tag body => Sys2Proof.Machine.execFloor tag body s
  | .readIncident tag body => Sys2Proof.Machine.execReadIncident tag body s
  | .plan tag body => Sys2Proof.Machine.execPlan tag body s
  | .execute tag body => Sys2Proof.Machine.execExecute tag body s
  | .extend tag body => Sys2Proof.Machine.execExtend tag body s
  | .confirm tag body => Sys2Proof.Machine.execConfirm tag body s
  | .release tag body => Sys2Proof.Machine.execRelease tag body s
  | .cancel tag body => Sys2Proof.Machine.execCancel tag body s
  | .readContext tag body => Sys2Proof.Machine.execReadContext tag body s
  | .order tag body => Sys2Proof.Machine.execOrder tag body s
  | .recall tag body => Sys2Proof.Machine.execRecall tag body s
  | .releaseLocal tag body => Sys2Proof.Machine.execReleaseLocal tag body s
  | .abort tag body => Sys2Proof.Machine.execAbort tag body s
  | .hold tag body => Sys2Proof.Machine.execHold tag body s
  | .releaseHold tag body => Sys2Proof.Machine.execReleaseHold tag body s
  | .valveEntry tag body => Sys2Proof.Machine.execValveEntry tag body s
  | .inhibit tag body => Sys2Proof.Machine.execInhibit tag body s
  | .readOrders tag body => Sys2Proof.Machine.execReadOrders tag body s
  | .relightDone tag body => Sys2Proof.Machine.execRelightDone tag body s
  | .readOutage tag body => Sys2Proof.Machine.execReadOutage tag body s
  | .discardOutage tag body => Sys2Proof.Machine.execDiscardOutage tag body s
  | .fetch tag body => Sys2Proof.Machine.execFetch tag body s
  | .heldInReset => Sys2Proof.Machine.execHeldInReset s

end Sys2Proof.Machine
end

