-- ==== Sys2Proof/WellFormed.lean ====
section
/-! DEFINITION. Which commands name an event the part can meet. -/
namespace Sys2Proof

/-- The kind codes of the request catalogue (section 11.4). -/
def catalogue : List Nat :=
  [0x01, 0x02, 0x03, 0x04, 0x10, 0x11, 0x12, 0x13, 0x14, 0x15, 0x16, 0x18, 0x19, 0x1A, 0x1B, 0x1C, 0x20, 0x21, 0x22, 0x23,
   0x24, 0x25, 0x30, 0x31, 0x32, 0x33, 0x34, 0x35, 0x36, 0x40, 0x41, 0x42, 0x43, 0x44, 0x45, 0x46, 0x47, 0x48, 0x50, 0x51,
   0x52, 0x60]

/-- A frame body the link can carry, 0..1024 bytes (R191). -/
def bodyFits (body : List Byte) : Bool := body.length ≤ Config.bodyBytes

/-- A command is well formed: a request's body fits a frame, and UNKNOWN_KIND carries a kind that is not in the
catalogue (R193). The operands of the other commands are bounded by their types. -/
def Instr.wellFormed : Instr → Bool
  | .unknownKind kind _ body => !catalogue.contains kind.toNat && bodyFits body
  | .ident _ body => bodyFits body
  | .status _ body => bodyFits body
  | .setMode _ body => bodyFits body
  | .setParam _ body => bodyFits body
  | .modelClear _ body => bodyFits body
  | .loadSegment _ body => bodyFits body
  | .loadValve _ body => bodyFits body
  | .loadPoint _ body => bodyFits body
  | .loadStation _ body => bodyFits body
  | .loadLine _ body => bodyFits body
  | .loadTier _ body => bodyFits body
  | .readSegment _ body => bodyFits body
  | .readValve _ body => bodyFits body
  | .readPoint _ body => bodyFits body
  | .readStation _ body => bodyFits body
  | .stationStats _ body => bodyFits body
  | .call _ body => bodyFits body
  | .attend _ body => bodyFits body
  | .madeSafe _ body => bodyFits body
  | .closeIncident _ body => bodyFits body
  | .floor _ body => bodyFits body
  | .readIncident _ body => bodyFits body
  | .plan _ body => bodyFits body
  | .execute _ body => bodyFits body
  | .extend _ body => bodyFits body
  | .confirm _ body => bodyFits body
  | .release _ body => bodyFits body
  | .cancel _ body => bodyFits body
  | .readContext _ body => bodyFits body
  | .order _ body => bodyFits body
  | .recall _ body => bodyFits body
  | .releaseLocal _ body => bodyFits body
  | .abort _ body => bodyFits body
  | .hold _ body => bodyFits body
  | .releaseHold _ body => bodyFits body
  | .valveEntry _ body => bodyFits body
  | .inhibit _ body => bodyFits body
  | .readOrders _ body => bodyFits body
  | .relightDone _ body => bodyFits body
  | .readOutage _ body => bodyFits body
  | .discardOutage _ body => bodyFits body
  | .fetch _ body => bodyFits body
  | .powerOn _ _ => true
  | .resetPin _ _ => true
  | .tick => true
  | .incidentDeadlineExpiry _ => true
  | .orderChannelExpiry _ => true
  | .contextChannelExpiry _ => true
  | .outageChannelExpiry _ => true
  | .crlFrameReceived _ => true
  | .crlGapTimeout => true
  | .stationReport _ _ _ => true
  | .orderAnswer _ _ _ => true
  | .badReply _ _ _ => true
  | .replyTimeout _ _ => true
  | .quietWaitEnd _ => true
  | .traceComplete => true
  | .searchStep => true
  | .searchZoneComplete => true
  | .searchComplete => true
  | .heldInReset => true

end Sys2Proof
end

