-- ==== Sys2Proof/Safety.lean ====
section
/-! DEFINITION. The terms the statements about the part use: how a request is taken and answered, and the invariants of
a sound state. -/
namespace Sys2Proof

/-- The frame a request command carries, none for a command that is no request (section 11.4). -/
def Instr.request : Instr → Option Machine.Request
  | .powerOn _ _ => none
  | .resetPin _ _ => none
  | .tick => none
  | .incidentDeadlineExpiry _ => none
  | .orderChannelExpiry _ => none
  | .contextChannelExpiry _ => none
  | .outageChannelExpiry _ => none
  | .crlFrameReceived _ => none
  | .crlGapTimeout => none
  | .stationReport _ _ _ => none
  | .orderAnswer _ _ _ => none
  | .badReply _ _ _ => none
  | .replyTimeout _ _ => none
  | .quietWaitEnd _ => none
  | .traceComplete => none
  | .searchStep => none
  | .searchZoneComplete => none
  | .searchComplete => none
  | .unknownKind kind tag body => some ⟨kind, tag, body⟩
  | .ident tag body => some ⟨0x01#8, tag, body⟩
  | .status tag body => some ⟨0x02#8, tag, body⟩
  | .setMode tag body => some ⟨0x03#8, tag, body⟩
  | .setParam tag body => some ⟨0x04#8, tag, body⟩
  | .modelClear tag body => some ⟨0x10#8, tag, body⟩
  | .loadSegment tag body => some ⟨0x11#8, tag, body⟩
  | .loadValve tag body => some ⟨0x12#8, tag, body⟩
  | .loadPoint tag body => some ⟨0x13#8, tag, body⟩
  | .loadStation tag body => some ⟨0x14#8, tag, body⟩
  | .loadLine tag body => some ⟨0x15#8, tag, body⟩
  | .loadTier tag body => some ⟨0x16#8, tag, body⟩
  | .readSegment tag body => some ⟨0x18#8, tag, body⟩
  | .readValve tag body => some ⟨0x19#8, tag, body⟩
  | .readPoint tag body => some ⟨0x1A#8, tag, body⟩
  | .readStation tag body => some ⟨0x1B#8, tag, body⟩
  | .stationStats tag body => some ⟨0x1C#8, tag, body⟩
  | .call tag body => some ⟨0x20#8, tag, body⟩
  | .attend tag body => some ⟨0x21#8, tag, body⟩
  | .madeSafe tag body => some ⟨0x22#8, tag, body⟩
  | .closeIncident tag body => some ⟨0x23#8, tag, body⟩
  | .floor tag body => some ⟨0x24#8, tag, body⟩
  | .readIncident tag body => some ⟨0x25#8, tag, body⟩
  | .plan tag body => some ⟨0x30#8, tag, body⟩
  | .execute tag body => some ⟨0x31#8, tag, body⟩
  | .extend tag body => some ⟨0x32#8, tag, body⟩
  | .confirm tag body => some ⟨0x33#8, tag, body⟩
  | .release tag body => some ⟨0x34#8, tag, body⟩
  | .cancel tag body => some ⟨0x35#8, tag, body⟩
  | .readContext tag body => some ⟨0x36#8, tag, body⟩
  | .order tag body => some ⟨0x40#8, tag, body⟩
  | .recall tag body => some ⟨0x41#8, tag, body⟩
  | .releaseLocal tag body => some ⟨0x42#8, tag, body⟩
  | .abort tag body => some ⟨0x43#8, tag, body⟩
  | .hold tag body => some ⟨0x44#8, tag, body⟩
  | .releaseHold tag body => some ⟨0x45#8, tag, body⟩
  | .valveEntry tag body => some ⟨0x46#8, tag, body⟩
  | .inhibit tag body => some ⟨0x47#8, tag, body⟩
  | .readOrders tag body => some ⟨0x48#8, tag, body⟩
  | .relightDone tag body => some ⟨0x50#8, tag, body⟩
  | .readOutage tag body => some ⟨0x51#8, tag, body⟩
  | .discardOutage tag body => some ⟨0x52#8, tag, body⟩
  | .fetch tag body => some ⟨0x60#8, tag, body⟩
  | .heldInReset => none

end Sys2Proof

namespace Sys2Proof.Machine

/-! ## Requests -/

/-- A command that comes to the part in `s` finds it in `d`: the part is not held in reset, and the expiries of the last
tick that were left have been delivered (R179, log entry 5). Where none was left, `d` is `s`. -/
def State.Finds (s d : State) : Prop := s.crl.held = false ∧ d = s.deliverDue

/-- The part takes the request `r` from `s`, and handles it in `s₀` (R192): in the state the request finds, the request
list is empty, or holds `r` at its head, which then leaves it. -/
def State.Takes (s : State) (r : Request) (s₀ : State) : Prop :=
  ∃ d, s.Finds d
    ∧ ((d.crl.requests = [] ∧ s₀ = d)
      ∨ ∃ rest, d.crl.requests = r :: rest ∧ s₀ = d.withCrl { d.crl with requests := rest })

/-- The state with a reply sent to a request of the catalogue (R193): its kind plus 0x80, its tag, a result code and the
contents. -/
def State.answered (s : State) (kind tag : Byte) (code : ResultCode) (body : ReplyBody) : State :=
  s.withCrl { s.crl with reply := some ⟨kind + 0x80#8, tag, code, body⟩ }

/-- The numbers fit the widths of their fields, one number for each width (R202). -/
def fits : List Nat → List Nat → Prop
  | w :: ws, n :: ns => n < 256 ^ w ∧ fits ws ns
  | [], [] => True
  | _, _ => False

/-! ## Invariants -/

/-- The counters of a class (R184), its capacity, and its overflow flag, which is set exactly while drops are not
reported (section 10.2). -/
def ClassQueue.Sound (q : ClassQueue) (capacity : Nat) : Prop :=
  q.generated = q.fetched + .ofNat 32 q.notices.length + q.dropped
    ∧ q.notices.length ≤ capacity
    ∧ (q.drops.isSome ↔ 0 < q.sinceReport)

/-- Every class is sound, the class order names each class once (R185), and the next serial is not 0 (R182). -/
def NoticeQueues.Sound (q : NoticeQueues) : Prop :=
  (∀ cls, (q.queue cls).Sound cls.capacity)
    ∧ q.classOrder.Perm [.safety, .operations, .service]
    ∧ q.nextSerial ≠ 0

/-- What R174 says of a channel: its count and remainder while RUNNING and while STOPPED. Prescale and reload lie in
their ranges (section 9.1). -/
def Channel.Sound (c : Channel) : Prop :=
  1 ≤ c.prescale ∧ c.prescale ≤ 64 ∧ 1 ≤ c.reload ∧ c.reload ≤ 65535
    ∧ (c.running = true → 1 ≤ c.count ∧ c.count ≤ c.reload ∧ 1 ≤ c.remainder ∧ c.remainder ≤ c.prescale)
    ∧ (c.running = false → c.count = 0 ∧ c.remainder = 0 ∧ c.gateOpen = true)

/-- Every channel of the bank is sound. -/
def TimerBank.Sound (b : TimerBank) : Prop := ∀ c ∈ b.channels, c.Sound

/-- The ranges of an outstation's health (R28 to R31) and of its counters (R35). -/
def StationLive.Sound (x : StationLive) : Prop :=
  x.counter ≤ 255
    ∧ (x.health = .healthy → x.counter < 64)
    ∧ (x.health = .degraded → 32 ≤ x.counter ∧ x.counter < 128)
    ∧ x.goodRun < 4
    ∧ (x.health ≠ .lost → x.goodRun = 0)
    ∧ ∀ n, (x.stats.get n).value ≤ 65535

/-- The ranges of a controller (section 2.1). -/
def Controller.Sound (c : Controller) : Prop := c.cycleCount < 8 ∧ c.orderRun ≤ 4

/-- Every controller and every outstation index is sound. -/
def FieldLines.Sound (f : FieldLines) : Prop := (∀ c ∈ f.controllers, c.Sound) ∧ ∀ x ∈ f.stations, x.Sound

/-- The request list holds at most four frames (R192), and a pending change to CONFIGURE stands outside CONFIGURE only
(section 11.5). -/
def Link.Sound (l : Link) : Prop := l.requests.length ≤ 4 ∧ (l.pendingConfigure = true → l.mode ≠ .configure)

/-- In CONFIGURE the blocks hold no live state (R17, R38, R39, R59, R67, R87, R155). -/
def State.NoLiveState (s : State) : Prop :=
  s.crl.mode = .configure →
    s.flc = .reset ∧ s.pe = .reset ∧ s.vou = .reset ∧ s.me = .reset ∧ s.ou.services = .empty

/-- What R161 and R166 say of an outage record: affected equals relit plus off count, off count and critical consumers
off are the sums over the segments listed, no segment is listed twice, and a record that is not ACTIVE lists none. -/
def State.RecordSound (s : State) (r : OutageRecord) : Prop :=
  r.affected = r.relit + r.offCount
    ∧ r.offCount = (r.segments.map fun e => (s.consumers e.segment).1).sum
    ∧ r.criticalOff = (r.segments.map fun e => (s.consumers e.segment).2).sum
    ∧ (r.segments.map (·.segment)).Nodup
    ∧ (r.state ≠ .active → r.segments = [])

/-- Every outage record is sound; the ACTIVE ones are those the order of R161 names, each once; a loaded segment names
the one record that lists it exactly while it is OFF_SUPPLY or RESTORING; in CONFIGURE there is no service record. -/
def State.OutagesSound (s : State) : Prop :=
  (∀ n, n < 16 → s.RecordSound (s.outage n))
    ∧ s.ou.active.Nodup ∧ (∀ n, n ∈ s.ou.active ↔ n < 16 ∧ (s.outage n).state = .active)
    ∧ (∀ g x, s.ou.services.get g = some x →
        (x.outage.isSome = true ↔ x.state = .offSupply ∨ x.state = .restoring)
          ∧ ∀ n, x.outage = some n ↔ n < 16 ∧ g ∈ (s.outage n).segments.map (·.segment))
    ∧ (∀ n g, n < 16 → g ∈ (s.outage n).segments.map (·.segment) → (s.ou.services.get g).isSome = true)
    ∧ (s.crl.mode = .configure → ∀ g, s.ou.services.get g = none)

/-! ## Terms of single rules -/

/-- A set of segments is closed under the passing valves of a trace: what R92 asks of the fed set. -/
def ClosedUnder (valves : List ValveRec) (fed : Nat → Prop) : Prop :=
  ∀ v ∈ valves,
    (v.kind = .feed → fed v.sideB)
      ∧ (v.kind = .regulator → ∀ a, v.sideA = .segment a → fed a → fed v.sideB)
      ∧ (v.kind = .line → ∀ a, v.sideA = .segment a → (fed a ↔ fed v.sideB))

/-- The command that delivers the expiry of a channel, by the channel's owner (section 9.1). -/
def expiryCommand (n : Nat) : Option Instr :=
  if h : n < 48 then some (.incidentDeadlineExpiry ⟨n, h⟩)
  else if h : n < 60 then some (.orderChannelExpiry ⟨n - 48, by omega⟩)
  else if h : n < 68 then some (.contextChannelExpiry ⟨n - 60, by omega⟩)
  else if h : n < 84 then some (.outageChannelExpiry ⟨n - 68, by omega⟩)
  else none

/-- The channel after a number of ticks, with whether it expired at the last of them. -/
def Channel.after (c : Channel) : Nat → Channel × Bool
  | 0 => (c, false)
  | n + 1 => ((Channel.after c n).1).tick

/-- SET_PARAM with the write flag set, for a name, an index field and the fields of a value, is taken in `s₀` and leaves
`s₁` (R199 step 5). -/
def State.ParamTaken (s₀ : State) (name presence index : Nat) (widths value : List Nat) (s₁ : State) : Prop :=
  ∀ (s : State) (tag : Byte) (body : List Byte),
    body = joinFields ([1, 1, 1, 1] ++ widths) ([name, presence, index, 1] ++ value) → s.Takes ⟨0x04#8, tag, body⟩ s₀ →
      exec (.setParam tag body) s = .next (s₁.answered 0x04#8 tag .ok .empty)

/-- SET_PARAM with the write flag clear returns in `s₀` the value of a parameter, and changes nothing (R199 step 2). -/
def State.ParamRead (s₀ : State) (name presence index : Nat) (p : Parameter) (value : ParamValue) : Prop :=
  ∀ (s : State) (tag : Byte) (body : List Byte),
    body = joinFields [1, 1, 1, 1] [name, presence, index, 0] → s.Takes ⟨0x04#8, tag, body⟩ s₀ →
      exec (.setParam tag body) s = .next (s₀.answered 0x04#8 tag .ok (.parameter p value))

/-- SET_PARAM with the write flag set is refused in `s₀` with a code, and changes nothing (R199 steps 1, 3 and 4). -/
def State.ParamRefused (s₀ : State) (name presence index : Nat) (widths value : List Nat) (code : ResultCode) : Prop :=
  ∀ (s : State) (tag : Byte) (body : List Byte),
    body = joinFields ([1, 1, 1, 1] ++ widths) ([name, presence, index, 1] ++ value) → s.Takes ⟨0x04#8, tag, body⟩ s₀ →
      exec (.setParam tag body) s = .next (s₀.answered 0x04#8 tag code .empty)

/-- The command `c`, which finds the part in `d`, ends the transaction in flight on a line, addressed to outstation
`st`, with a good reply or not, of a scan or of the order in `slot`. The outstation's health is updated and the named
statistics are counted; then `hand` gives the result to the blocks concerned; a scan moves the scan position; and the
controller chooses again (R19, R23, R28 to R31, R35). The number of orders sent is left open: the choice may send the
outstation its next order. -/
def State.Ends (s d : State) (c : Instr) (line st : Nat) (good : Bool) (slot : Option Nat) (order : DeliveryOrder)
    (counts : List StatName) (hand : State → State) : Prop :=
  ∃ u t : State, exec c s = .next t
    ∧ u = counts.foldl (fun x n => x.count st n) (d.updateHealth st good slot.isNone slot order)
    ∧ u.station st = { (d.station st).afterTransaction good slot.isNone with stats := (u.station st).stats }
    ∧ (slot ≠ none → t = (hand u).chooseTransaction line)
    ∧ (slot = none → ∀ r, d.ms.stations.get st = some r →
        t = ((hand u).advanceScan line r.address).chooseTransaction line)
    ∧ (t.station st).health = ((d.station st).afterTransaction good slot.isNone).health
    ∧ (t.station st).counter = ((d.station st).afterTransaction good slot.isNone).counter
    ∧ (t.station st).goodRun = ((d.station st).afterTransaction good slot.isNone).goodRun
    ∧ (∀ n, n ≠ .ordersSent → (t.station st).stats.get n =
        if n ∈ counts then
          ⟨min (((d.station st).stats.get n).value + 1) 65535,
            ((d.station st).stats.get n).half || ((d.station st).stats.get n).value == 32767⟩
        else (d.station st).stats.get n)
    ∧ (∀ j, j ≠ st → (t.station j).health = (d.station j).health ∧ (t.station j).counter = (d.station j).counter
        ∧ (t.station j).goodRun = (d.station j).goodRun)
    ∧ ((t.controller line).state = .quiet ∨ ∃ tx, (t.controller line).state = .inTransaction tx)
    ∧ t.ms = d.ms ∧ t.crl = d.crl ∧ t.tb.time = d.tb.time ∧ t.pending = d.pending

/-- Steps 1 to 6 of R78, for the order `o` of slot `k` that ends with an outcome: its channel stops, the valve's order slot
field is cleared, RECALL_PENDING authority returns to LOCAL at a RECALL that ends other than DONE (R66), ORDER_OUTCOME is
posted, a context that asked is told, and the slot is FREE. -/
def State.ended (s : State) (k : Nat) (o : Order) (outcome : OrderOutcome) : State :=
  let stopped := (s.stopChannel (48 + k)).setValveSlot o.valve none
  let returned :=
    if o.action = .recall ∧ outcome ≠ .done
        ∧ (stopped.vou.valves.get o.valve).bind (·.authority) = some .recallPending then
      stopped.changeAuthority o.valve (if outcome = .recallUnanswered then .recallUnanswered else .orderEnded) .crew
    else stopped
  let posted := returned.post .operations (.orderOutcome (some k) o.valve o.action o.origin outcome o.attempts)
  (match o.origin with
    | .host => posted
    | .context c => posted.deliverOutcome c o.valve o.action outcome).setSlot k none

/-- Steps 4 and 5 of R78 for an entry that has left the waiting list: ORDER_OUTCOME with the slot absent, and its context is
told. -/
def State.endedUnslotted (s : State) (e : WaitEntry) (outcome : OrderOutcome) : State :=
  (s.post .operations (.orderOutcome none e.valve e.action (.context e.context) outcome 0)).deliverOutcome e.context e.valve
    e.action outcome

/-- Slot `k` is offered to the waiting list, from one state to another (R84): nothing happens where the slot is taken or the
list empty. Else the oldest entry leaves the list and is checked again by steps 3 to 8 of R83. If it passes, the slot enters
WAITING for it, and its boundary or reopen entry becomes ORDERED (R140, R152). If not, its outcome is posted and delivered,
and the slot, if still FREE, is offered again. -/
inductive State.Offers (k : Nat) : State → State → Prop
  | taken {s : State} : s.slot k ≠ none → Offers k s s
  | empty {s : State} : s.slot k = none → s.vou.waiting = [] → Offers k s s
  | granted {s u : State} {e : WaitEntry} {rest : List WaitEntry} {x : Context} :
      s.slot k = none → s.vou.waiting = e :: rest → (s.setWaiting rest).requestCheck e.valve e.action = none →
      u = ((s.setWaiting rest).setSlot k (some {
          stage := .waiting, valve := e.valve, action := e.action, priority := 3, origin := .context e.context
          oneShot := false, attempts := 0, abortRequested := false, waitingTime := s.tb.time })).setValveSlot e.valve (some k) →
      x = s.context e.context →
      Offers k s (u.setContext e.context
        (if e.action = .opening then
          { x with reopen := x.reopen.map fun r => if r.valve = e.valve then { r with status := .ordered } else r }
        else
          { x with boundary := x.boundary.map fun b => if b.valve = e.valve then { b with status := .ordered } else b }))
  | refused {s t : State} {e : WaitEntry} {rest : List WaitEntry} {outcome : OrderOutcome} :
      s.slot k = none → s.vou.waiting = e :: rest → (s.setWaiting rest).requestCheck e.valve e.action = some outcome →
      Offers k ((s.setWaiting rest).endedUnslotted e outcome) t → Offers k s t

/-- After an event of the release of context `c`, the release goes on as the event left it, or ends where every reopen entry
is OPENED: the context becomes FREE (R128, R152). -/
def State.Releases (s : State) (c : Nat) (t : State) : Prop :=
  let x := s.context c
  ((∃ e ∈ x.reopen, e.status ≠ .opened) → t = s)
  ∧ ((∀ e ∈ x.reopen, e.status = .opened) →
    t.context c = .freeWith x.searchNumber ∧ (∀ d, d ≠ c → t.context d = s.context d)
    ∧ (t.channel (60 + c)).running = false
    ∧ t.vou = { s.vou with waiting := s.vou.waiting.filter fun e => e.context != c }
    ∧ (∀ g y, s.ou.services.get g = some y → ∃ z, t.ou.services.get g = some z ∧ z.fed = y.fed
        ∧ z.condition = y.condition ∧ z.member = if g ∈ x.zone then none else y.member)
    ∧ ((s.it.incidents.map (·.serial)).Nodup → t.it = { s.it with incidents := s.it.incidents.map fun i =>
        if x.incident ≠ 0 ∧ i.serial = x.incident then { i with context := none } else i })
    ∧ (∃ q : NoticeQueues, t.nq = q.post .operations s.tb.time
        (.isolationState c x.incident .releasing .free x.revision none none none))
    ∧ t.ms = s.ms ∧ t.flc = s.flc ∧ t.pe = s.pe ∧ t.crl = s.crl ∧ t.tb.time = s.tb.time ∧ t.pending = s.pending)

/-- An ACTIVE record is a candidate for a joining segment with a member copy: it lists a segment that shares a valve with
the joining one, or one whose member copy names the same context (R162). -/
def State.JoinCandidate (s : State) (g : Nat) (member : Option Nat) (n : Nat) : Prop :=
  n ∈ s.ou.active ∧ ∃ e ∈ (s.outage n).segments,
    (∃ v r, v ∈ s.ms.adjacentOf g ∧ s.ms.valves.get v = some r ∧ r.otherSide g = .segment e.segment)
      ∨ member ≠ none ∧ (s.ou.services.get e.segment).map (·.member) = some member

/-- The accumulator of a record, brought to the present time (R167). -/
def State.accumulatorNow (s : State) (n : Nat) : Nat :=
  let r := s.outage n
  min (r.accumulator + r.offCount * (s.tb.time - r.lastUpdate.getD s.tb.time).toNat) 18446744073709551615

/-- The age of a CLOSED record's closed time, modulo 2^32 (R163, log entry 19). -/
def State.closedAge (s : State) (n : Nat) : Nat := (s.tb.time - (s.outage n).closedAt.getD s.tb.time).toNat

/-- The join of a segment to a record that becomes ACTIVE for it (R164, R166): the record, its channel and OUTAGE_OPENED,
posted after what `t` has posted. -/
def State.Opens (s t u : State) (n : Nat) (e : OutageEntry) (points critical : Nat) : Prop :=
  u.outage n = { OutageRecord.free with
      state := .active, segments := [e], affected := points, offCount := points, criticalOff := critical
      peakOff := points, created := some s.tb.time, lastUpdate := some s.tb.time }
    ∧ u.ou.active = s.ou.active ++ [n]
    ∧ u.channel (68 + n) = .loaded s.ou.reminder .periodic true
    ∧ u.nq = (t.post (if 0 < critical then .safety else .service) (.outageOpened n e.segment e.cause points critical)).nq

/-- The join of a segment to its oldest candidate, which absorbs the other ones (R162, R165 to R167). -/
def State.Merges (s u : State) (n : Nat) (others : List Nat) (e : OutageEntry) (points critical : Nat) : Prop :=
  let all := (n :: others).map s.outage
  let sum (f : OutageRecord → Nat) : Nat := (all.map f).sum
  u.outage n = { s.outage n with
      segments := all.flatMap (·.segments) ++ [e]
      affected := sum (·.affected) + points
      relit := sum (·.relit)
      offCount := sum (·.offCount) + points
      criticalOff := sum (·.criticalOff) + critical
      peakOff := (all.map (·.peakOff)).foldr max (sum (·.offCount) + points)
      noGas := if others = [] then (s.outage n).noGas else min (sum (·.noGas)) 65535
      accumulator := min ((n :: others).map s.accumulatorNow).sum 18446744073709551615
      lastUpdate := some s.tb.time
      capacityMerged := all.any (·.capacityMerged) }
    ∧ u.ou.active = s.ou.active.filter (fun m => !others.contains m)
    ∧ (∀ m ∈ others, u.outage m = .free ∧ (u.channel (68 + m)).running = false
        ∧ ∀ h ∈ (s.outage m).segments, (u.ou.services.get h.segment).bind (·.outage) = some n)
    ∧ (others = [] → u.nq = s.nq ∧ u.tb = s.tb)
    ∧ ∀ a, others = [a] → u.nq = (s.post .service (.outageMerged n a (s.outage a).segments.length (sum (·.affected))
        (sum (·.offCount)) (sum (·.criticalOff)))).nq

/-- Segment `g`, which goes off supply, joins record `n`, from `s` to `u`, by the number of candidates (R162 to R166). With
none: the lowest FREE record; else the CLOSED one of the oldest closed time, discarded first; else the oldest ACTIVE
one, which is marked CAPACITY_MERGED. -/
def State.Joins (s u : State) (g n : Nat) (cause : OutageCause) (member : Option Nat) (points critical : Nat) : Prop :=
  let e : OutageEntry := ⟨g, cause, s.tb.time⟩
  let has (x : RecordState) (m : Nat) : Prop := m < 16 ∧ (s.outage m).state = x
  ∀ candidates : List Nat, candidates.Sublist s.ou.active → (∀ m, m ∈ candidates ↔ s.JoinCandidate g member m) →
    (∀ m, m ≠ n → m ∉ candidates → u.outage m = s.outage m)
    ∧ (∀ first others, candidates = first :: others → n = first ∧ s.Merges u n others e points critical)
    ∧ (candidates = [] →
      ((∃ m, has .free m) → has .free n ∧ (∀ m, m < n → ¬has .free m) ∧ s.Opens s u n e points critical)
      ∧ ((∀ m, ¬has .free m) → (∃ m, has .closed m) →
        has .closed n
        ∧ (∀ m, has .closed m → s.closedAge m < s.closedAge n ∨ s.closedAge m = s.closedAge n ∧ n ≤ m)
        ∧ s.Opens (s.post .service (.outageDiscarded n .reused (s.outage n).figures)) u n e points critical)
      ∧ ((∀ m, ¬has .free m) → (∀ m, ¬has .closed m) →
        s.ou.active.head? = some n ∧ u.ou.active = s.ou.active ∧ u.nq = s.nq ∧ u.tb = s.tb
        ∧ u.outage n = { s.outage n with
            segments := (s.outage n).segments ++ [e]
            affected := (s.outage n).affected + points
            offCount := (s.outage n).offCount + points
            criticalOff := (s.outage n).criticalOff + critical
            peakOff := max (s.outage n).peakOff ((s.outage n).offCount + points)
            accumulator := s.accumulatorNow n
            lastUpdate := some s.tb.time
            capacityMerged := true }))

/-- The Model Store with the record of a line replaced, its validation lost (R9). -/
def ModelStore.withLine (m : ModelStore) (line : Nat) (r : LineRec) : ModelStore :=
  { m with lines := m.lines.setIfInBounds line r, derived := none }

/-- The Model Store with the record of a tier replaced, its validation lost (R10). -/
def ModelStore.withTier (m : ModelStore) (t : Tier) (r : TierRec) : ModelStore :=
  { m with tiers := m.tiers.put r t, derived := none }

/-- The record that the fields of a LOAD_VALVE describe: the values R4 and R5 allow, and their clamps. -/
def ValveFields.Describe (f : ValveFields) (r : ValveRec) : Prop :=
  valveKindOf f.kind = some r.kind ∧ actuationOf f.actuation = some r.actuation ∧ settledOf f.normal = some r.normal
    ∧ r.sideB = f.sideB ∧ f.sideB < 384
    ∧ (r.kind = .feed ∧ f.presentA = 0 ∧ r.sideA = .source
      ∨ r.kind ≠ .feed ∧ f.presentA = 1 ∧ f.sideA < 384 ∧ f.sideA ≠ f.sideB ∧ r.sideA = .segment f.sideA)
    ∧ (r.actuation = .manual ∧ f.presentStation = 0 ∧ r.station = none ∧ r.channel = none
      ∨ r.actuation ≠ .manual ∧ f.presentStation = 1 ∧ f.station < 64 ∧ r.station = some f.station
        ∧ r.channel = some f.channel)
    ∧ r.travelTime = max 1 (min 6000 f.travel) ∧ r.recallTime = max 10 (min 6000 f.answer)

/-- What validation asks of the loaded records (R13): the fourteen checks, none of which fails. -/
def ModelStore.Valid (m : ModelStore) : Prop :=
  (∀ g r, m.segments.get g = some r → (m.valvesNaming g).length ≤ 8 ∧ (m.pointsNaming g).length ≤ 8)
    ∧ (∀ i v, m.valves.get i = some v →
        (∀ a, v.sideA = .segment a → (m.segments.get a).isSome = true) ∧ (m.segments.get v.sideB).isSome = true
          ∧ (∀ a ra rb, v.sideA = .segment a → m.segments.get a = some ra → m.segments.get v.sideB = some rb →
              (v.kind = .regulator → rb.tier.height < ra.tier.height) ∧ (v.kind = .line → ra.tier = rb.tier))
          ∧ (∀ st ch, v.station = some st → v.channel = some ch →
              (m.stations.get st).isSome = true ∧ ch < 8
                ∧ ∀ j w, j < i → m.valves.get j = some w → ¬(w.station = some st ∧ w.channel = some ch)))
    ∧ (∀ i p, m.points.get i = some p →
        (m.segments.get p.segment).isSome = true ∧ (m.stations.get p.station).isSome = true ∧ p.channel < 8
          ∧ ∀ j q, j < i → m.points.get j = some q → ¬(q.station = p.station ∧ q.channel = p.channel))
    ∧ (∀ i r, m.stations.get i = some r →
        ∀ j q, j < i → m.stations.get j = some q → ¬(q.line = r.line ∧ q.address = r.address))
    ∧ ∃ i v, m.valves.get i = some v ∧ v.kind = .feed

/-- A check of the table of R13 fails, with the report its row gives: the number of the row, and the report. Rows 1 and
2 are checks of a segment, 3 to 8 of a valve, 9 to 12 of a point, 13 of an outstation, and 14 of no record. -/
def ModelStore.Fails (m : ModelStore) : Nat → FailureReport → Prop
  | 1, f => ∃ g r n, m.segments.get g = some r ∧ n = (m.valvesNaming g).length ∧ 8 < n
      ∧ f = ⟨.segment, some g, .segAdjacency, none, some n⟩
  | 2, f => ∃ g r n, m.segments.get g = some r ∧ n = (m.pointsNaming g).length ∧ 8 < n
      ∧ f = ⟨.segment, some g, .segPoints, none, some n⟩
  | 3, f => ∃ i v g, m.valves.get i = some v ∧ m.segments.get g = none
      ∧ (v.sideA = .segment g ∨ v.sideB = g ∧ ∀ a, v.sideA = .segment a → (m.segments.get a).isSome = true)
      ∧ f = ⟨.valve, some i, .valveSide, some g, none⟩
  | 4, f => ∃ i v a ra rb, m.valves.get i = some v ∧ v.kind = .regulator ∧ v.sideA = .segment a
      ∧ m.segments.get a = some ra ∧ m.segments.get v.sideB = some rb ∧ ra.tier.height ≤ rb.tier.height
      ∧ f = ⟨.valve, some i, .valveTierOrder, some v.sideB, none⟩
  | 5, f => ∃ i v a ra rb, m.valves.get i = some v ∧ v.kind = .line ∧ v.sideA = .segment a
      ∧ m.segments.get a = some ra ∧ m.segments.get v.sideB = some rb ∧ ra.tier ≠ rb.tier
      ∧ f = ⟨.valve, some i, .valveTierMatch, some v.sideB, none⟩
  | 6, f => ∃ i v st ch, m.valves.get i = some v ∧ v.station = some st ∧ v.channel = some ch ∧ m.stations.get st = none
      ∧ f = ⟨.valve, some i, .valveStation, some st, none⟩
  | 7, f => ∃ i v st ch, m.valves.get i = some v ∧ v.station = some st ∧ v.channel = some ch ∧ 7 < ch
      ∧ f = ⟨.valve, some i, .valveChannel, some st, some ch⟩
  | 8, f => ∃ i v st ch j w, m.valves.get i = some v ∧ v.station = some st ∧ v.channel = some ch ∧ j < i
      ∧ m.valves.get j = some w ∧ w.station = some st ∧ w.channel = some ch
      ∧ f = ⟨.valve, some i, .valveShared, some j, some ch⟩
  | 9, f => ∃ i p, m.points.get i = some p ∧ m.segments.get p.segment = none
      ∧ f = ⟨.point, some i, .pointSegment, some p.segment, none⟩
  | 10, f => ∃ i p, m.points.get i = some p ∧ m.stations.get p.station = none
      ∧ f = ⟨.point, some i, .pointStation, some p.station, none⟩
  | 11, f => ∃ i p, m.points.get i = some p ∧ 7 < p.channel
      ∧ f = ⟨.point, some i, .pointChannel, some p.station, some p.channel⟩
  | 12, f => ∃ i p j q, m.points.get i = some p ∧ j < i ∧ m.points.get j = some q ∧ q.station = p.station
      ∧ q.channel = p.channel ∧ f = ⟨.point, some i, .pointShared, some j, some p.channel⟩
  | 13, f => ∃ i r j q, m.stations.get i = some r ∧ j < i ∧ m.stations.get j = some q ∧ q.line = r.line
      ∧ q.address = r.address ∧ f = ⟨.station, some i, .stationAddress, some j, some r.address⟩
  | 14, f => (∀ i v, m.valves.get i = some v → v.kind ≠ .feed) ∧ f = ⟨.none, none, .noFeed, none, none⟩
  | _, _ => False

/-- The record by record order of the checks (R13): segments, valves, points, outstations, then the whole model; each
table in ascending index; within one record the order of the rows. A row's own table is the place of its record kind. -/
def checkedBefore (row : Nat) (f : FailureReport) (row' : Nat) (f' : FailureReport) : Prop :=
  let place (n : Nat) : Nat := if n ≤ 2 then 0 else if n ≤ 8 then 1 else if n ≤ 12 then 2 else if n = 13 then 3 else 4
  place row < place row'
    ∨ place row = place row' ∧ (f.index.getD 0 < f'.index.getD 0 ∨ f.index.getD 0 = f'.index.getD 0 ∧ row < row')

/-- The report of the first check that fails (R13). -/
def ModelStore.FirstFails (m : ModelStore) (f : FailureReport) : Prop :=
  ∃ row, m.Fails row f ∧ ∀ row' f', m.Fails row' f' → ¬checkedBefore row' f' row f

/-- The tables of the Model Store are in canonical form (section 5.4 gives the index ranges). -/
def ModelStore.wf (m : ModelStore) : Prop :=
  m.segments.wf 384 ∧ m.valves.wf 512 ∧ m.points.wf 256 ∧ m.stations.wf 64

/-- Outside CONFIGURE the model valid flag is set and the derived lists describe exactly the loaded records (R1). -/
def State.ModelValid (s : State) : Prop := s.crl.mode ≠ .configure → s.ms.derived = some s.ms.derive

end Sys2Proof.Machine
end

