-- ==== Sys2Proof/Certificates/Slice0/Obligations.lean ====
section
/-! DEFINITION. The statements about the GN410, in the order of its chapters: the command queue and the link, the Timer
Bank, the Notice Queues, modes and parameters, then chapters 1 to 8. A command acts on the part with the expiries of
the last tick delivered: `s.Finds d` and `s.Takes r s₀` say so (R179, log entry 5). -/
open Sys2Proof Sys2Proof.Machine

/-! ## The command queue and the link's requests -/

/-- A step runs exec on the command at the front of the queue, with the queue's rest; on an empty queue the part idles
(DESIGN CHOICE, log entry 2). -/
def Obligations.StepRunsFrontCommand : Prop :=
  (∀ (c : Instr) (rest : List Instr) (s : State), s.pending = c :: rest → step s = exec c (s.withPending rest))
  ∧ (∀ s : State, s.pending = [] → step s = .next s)

/-- What POWER_ON and RESET_PIN leave: the straps and the cause they latch, and every block at its reset values
(R1, R9, R10, R17, R67, R101, R103, R126, R161, R168, R174, R177, R185, R189, R190, R194). -/
def Obligations.ResetGivesResetValues : Prop :=
  ∀ (rate : BitVec 2) (site : BitVec 4) (s : State),
    ∃ p r : State,
      exec (.powerOn rate site) s = .next p ∧ exec (.resetPin rate site) s = .next r
        ∧ p.crl.cause = .powerOn ∧ r.crl.cause = .resetPin
        ∧ r = p.withCrl { p.crl with cause := .resetPin }
        ∧ p.pending = s.pending
        ∧ p.crl = { held := false, rateStraps := rate, siteStraps := site, cause := .powerOn, mode := .configure,
                    pendingConfigure := false, receiver := none, requests := [], linkErrors := 0, reply := none }
        ∧ (∀ i, p.ms.segments.get i = none ∧ p.ms.valves.get i = none ∧ p.ms.points.get i = none
              ∧ p.ms.stations.get i = none)
        ∧ (∀ l, l < 4 → p.ms.lineOf l = ⟨100, 300, 3, 38400⟩)
        ∧ p.ms.tiers = ⟨⟨1000, 500, 3000⟩, ⟨20000, 2000, 3000⟩, ⟨100000, 10000, 3000⟩⟩
        ∧ p.ms.derived = none
        ∧ (∀ l, l < 4 → p.controller l = ⟨.stopped, none, 0, 0⟩)
        ∧ (∀ n, n < 64 → (p.station n).health = .healthy ∧ (p.station n).counter = 0 ∧ (p.station n).goodRun = 0
              ∧ ∀ k, (p.station n).stats.get k = ⟨0, false⟩)
        ∧ (∀ i, p.pe.points.get i = none ∧ p.pe.conditions.get i = none)
        ∧ (∀ i, p.vou.valves.get i = none) ∧ (∀ k, k < 12 → p.slot k = none) ∧ p.vou.hold = false
        ∧ p.vou.waiting = []
        ∧ p.me.state = .idle ∧ p.me.pendingTrace = false ∧ p.me.queue = [] ∧ (∀ i, p.me.fed.get i = none)
        ∧ p.it = { incidents := [], nextSerial := 1,
                   params := ⟨⟨36000, 6000, 3⟩, ⟨72000, 18000, 2⟩, ⟨432000, 36000, 1⟩⟩,
                   autoIncident := true, autoPlan := false }
        ∧ (∀ c, c < 8 → p.context c = .freeWith 0)
        ∧ (∀ i, p.ou.services.get i = none) ∧ (∀ n, n < 16 → p.outage n = .free) ∧ p.ou.active = []
        ∧ p.ou.reminder = 18000
        ∧ p.tb.time = 0 ∧ p.tb.due = [] ∧ (∀ n, n < 84 → p.channel n = ⟨false, .single, 1, 1, 0, 0, true⟩)
        ∧ (∀ cls, p.nq.queue cls = ⟨[], none, 0, 0, 0, 0⟩)
        ∧ p.nq.nextSerial = 1 ∧ p.nq.classOrder = [.safety, .operations, .service]
        ∧ p.nq.mask = ⟨false, false, false⟩

/-- HELD_IN_RESET cuts off the reply and the arriving frame and releases ATTN (R190), and a part so held answers no
command but the two releases of reset (DEDUCED, log entry 21). -/
def Obligations.HeldInResetStopsThePart : Prop :=
  (∀ s : State,
    exec .heldInReset s = .next (s.withCrl { s.crl with held := true, receiver := none, reply := none })
      ∧ (s.withCrl { s.crl with held := true, receiver := none, reply := none }).attn = false)
  ∧ ∀ (c : Instr) (s : State), s.crl.held = true → c.wellFormed = true →
      (∀ rate site, c ≠ .powerOn rate site ∧ c ≠ .resetPin rate site) → c ≠ .heldInReset → exec c s = .next s

/-- A request frame that is not the head of a list that holds others joins the list, which holds four; one more is
discarded and counted as a link error (R192, as log entry 6 reads it for commands). -/
def Obligations.RequestWaitsItsTurn : Prop :=
  ∀ (c : Instr) (r first : Request) (rest : List Request) (s d : State),
    c.wellFormed = true → c.request = some r → s.Finds d → d.crl.requests = first :: rest → first ≠ r →
      ((first :: rest).length < 4 →
        exec c s = .next (d.withCrl { d.crl with requests := first :: rest ++ [r] }))
      ∧ (4 ≤ (first :: rest).length →
        exec c s = .next (d.withCrl
          { d.crl with linkErrors := if d.crl.linkErrors = 4294967295 then 4294967295 else d.crl.linkErrors + 1 }))

/-- A taken request of the catalogue whose body has another length than its kind requires is answered LENGTH; one whose
kind is not in the catalogue UNKNOWN_KIND, with the kind plus 0x80, or the kind unchanged from 0x80 on; nothing else
changes (R193 steps 1 and 2). UNKNOWN_KIND with a kind of the catalogue is no event of the part, and the command is
refused (the model's choice, in NOTES.md under Stops). -/
def Obligations.UnfitRequestsAreAnswered : Prop :=
  (∀ (c : Instr) (r : Request) (widths : List Nat) (s s₀ : State),
    c.request = some r → requestWidths r.kind r.body = some widths → (∀ k t b, c ≠ .unknownKind k t b) →
    r.body.length ≠ widths.sum → s.Takes r s₀ →
      exec c s = .next (s₀.answered r.kind r.tag .length .empty))
  ∧ (∀ (kind tag : Byte) (body : List Byte) (s s₀ : State),
    catalogue.contains kind.toNat = false → s.Takes ⟨kind, tag, body⟩ s₀ →
      exec (.unknownKind kind tag body) s = .next (s₀.withCrl { s₀.crl with
        reply := some ⟨if kind.toNat < 128 then kind + 0x80#8 else kind, tag, .unknownKind, .empty⟩ }))
  ∧ (∀ (kind tag : Byte) (body : List Byte) (s : State), catalogue.contains kind.toNat = true →
    exec (.unknownKind kind tag body) s = .refused .wrongRow)

/-- The receiver of the link. It takes back what a frame was made of: a frame with a body of up to 1,024 bytes that
arrives while it hunts, and that the request list has room for, joins the list with its kind, tag and body, and the
receiver hunts again. A frame whose CRC bytes differ from its CRC, a frame whose length is above 1,024, a frame that
finds the request list full and a frame cut off by the gap are discarded and counted; a byte other than 0xA5 outside a
frame is not (R191, R192, section 11.2). A gap while the receiver hunts changes nothing (log entry 3). -/
def Obligations.LinkFramesAreReceived : Prop :=
  (∀ (s : State) (kind tag : Byte) (body : List Byte),
    s.crl.held = false → s.crl.receiver = none → s.crl.requests.length < 4 → body.length ≤ 1024 →
      exec (.crlFrameReceived (linkFrame kind tag body)) s
        = .next (s.withCrl { s.crl with requests := s.crl.requests ++ [⟨kind, tag, body⟩] }))
  ∧ ∀ (s : State) (kind tag x y : Byte) (body part : List Byte),
    s.crl.held = false → s.crl.receiver = none →
      (body.length ≤ 1024 → numberOf [x, y] ≠ (crc16 (bytesOf 2 body.length ++ kind :: tag :: body)).toNat →
        exec (.crlFrameReceived (0xA5#8 :: (bytesOf 2 body.length ++ kind :: tag :: body) ++ [x, y])) s
          = .next (s.withCrl s.crl.countError))
      ∧ (1024 < numberOf [x, y] → exec (.crlFrameReceived [0xA5#8, x, y]) s = .next (s.withCrl s.crl.countError))
      ∧ (body.length ≤ 1024 → 4 ≤ s.crl.requests.length →
        exec (.crlFrameReceived (linkFrame kind tag body)) s = .next (s.withCrl s.crl.countError))
      ∧ (x ≠ 0xA5#8 → exec (.crlFrameReceived [x]) s = .next s)
      ∧ exec .crlGapTimeout s = .next s
      ∧ exec .crlGapTimeout (s.withCrl { s.crl with receiver := some part }) = .next (s.withCrl s.crl.countError)
      ∧ s.crl.countError = { s.crl with
          linkErrors := if s.crl.linkErrors = 4294967295 then 4294967295 else s.crl.linkErrors + 1 }

/-! ## Timer Bank (chapter 9) -/

/-- TICK: network time rises by 1; a channel that is STOPPED or gated takes nothing; the remaining time of a counting
channel falls by 1; at 1 it expires, SINGLE into STOPPED and PERIODIC into a new period (R177, R181). R179 delivers
each expiry at its tick, in no order between channels. The model lists those of a tick in ascending channel; the expiry
commands deliver them, and whatever the part takes otherwise finds those that are left delivered, in the order of the
list and at the network time of their tick (DESIGN CHOICE, log entry 5). -/
def Obligations.TickCounts : Prop :=
  (∀ s d : State, s.Finds d → d.tb.Sound →
    ∃ b expired, exec .tick s = .next (d.withTb b)
      ∧ b.time = s.tb.time + 1
      ∧ b.due = expired ∧ expired.Pairwise (· < ·)
      ∧ (∀ n, n ∈ expired ↔ n < 84 ∧ (d.channel n).gateOpen = true ∧ (d.channel n).remaining = some 1)
      ∧ ∀ n, n < 84 →
          ((d.channel n).running = false ∨ (d.channel n).gateOpen = false → b.channels.getD n .reset = d.channel n)
          ∧ ((d.channel n).gateOpen = true → ∀ r, (d.channel n).remaining = some (r + 2) →
              (b.channels.getD n .reset).remaining = some (r + 1)
                ∧ ∃ count remainder, b.channels.getD n .reset
                    = { d.channel n with count := count, remainder := remainder })
          ∧ ((d.channel n).gateOpen = true → (d.channel n).remaining = some 1 →
              ((d.channel n).mode = .single →
                b.channels.getD n .reset = { d.channel n with running := false, count := 0, remainder := 0 })
              ∧ ((d.channel n).mode = .periodic →
                b.channels.getD n .reset
                  = { d.channel n with count := (d.channel n).reload, remainder := (d.channel n).prescale })))
  ∧ ∀ s d : State, s.Finds d →
      d.tb.due = [] ∧ d.tb.time = s.tb.time ∧ d.ms = s.ms ∧ d.pending = s.pending ∧ d.crl.requests = s.crl.requests
        ∧ (s.tb.due = [] → d = s)
        ∧ ∀ n rest c, s.tb.due = n :: rest → expiryCommand n = some c →
            ∃ u : State, exec c s = .next u ∧ u.tb.due = rest ∧ u.tb.time = s.tb.time ∧ u.Finds d

/-- The prescale and reload of a duration: each is the ceiling R175 names, in its range, and the actual duration is at
least the clamped duration and exceeds it by less than the prescale, by nothing exactly when the prescale divides it
(R175). -/
def Obligations.DurationIsNeverShorter : Prop :=
  ∀ given : Nat,
    let d := max 1 (min given 4194240)
    let p := prescaleOf given
    let r := reloadOf given
    1 ≤ p ∧ p ≤ 64 ∧ d ≤ 65535 * p ∧ 65535 * (p - 1) < d
      ∧ 1 ≤ r ∧ r ≤ 65535 ∧ d ≤ p * r ∧ p * (r - 1) < d
      ∧ actualDuration given = p * r ∧ p * r < d + p ∧ p * r ≤ d + 63
      ∧ (p * r = d ↔ p ∣ d)

/-- A start loads a channel: RUNNING, with a full period that lasts the actual duration, and the gate it names; one
marked non-retriggerable leaves a running channel as it is and is answered IGNORED. A stop makes it STOPPED and keeps
mode, prescale and reload. A gate command acts on a running channel only. A channel loaded with its gate open expires
at the tick of its actual duration, not before; a PERIODIC one then stands at a full period again, a SINGLE one is
STOPPED; a closed gate holds it as it stands (R176 to R178, R180, R181). -/
def Obligations.ChannelsTakeTheirCommands : Prop :=
  (∀ (s : State) (n d : Nat) (mode : TimerMode) (gate : Bool), n < 84 →
    (s.startChannel n d mode gate).channel n
        = ⟨true, mode, prescaleOf d, reloadOf d, reloadOf d, prescaleOf d, gate⟩
      ∧ ((s.startChannel n d mode gate).channel n).remaining = some (actualDuration d)
      ∧ ((s.channel n).running = true → s.startChannelOnce n d mode gate = (s, .ignored))
      ∧ ((s.channel n).running = false → s.startChannelOnce n d mode gate = (s.startChannel n d mode gate, .loaded))
      ∧ ((s.channel n).running = true → (s.stopChannel n).channel n
          = { s.channel n with running := false, count := 0, remainder := 0, gateOpen := true })
      ∧ ((s.channel n).running = false → (s.stopChannel n).channel n = s.channel n)
      ∧ ((s.channel n).running = true → (s.gateChannel n gate).channel n = { s.channel n with gateOpen := gate })
      ∧ ((s.channel n).running = false → (s.gateChannel n gate).channel n = s.channel n)
      ∧ ∀ m, m ≠ n → (s.startChannel n d mode gate).channel m = s.channel m
          ∧ (s.stopChannel n).channel m = s.channel m ∧ (s.gateChannel n gate).channel m = s.channel m)
  ∧ (∀ (d k : Nat) (mode : TimerMode),
    (k < actualDuration d →
        ((Channel.loaded d mode true).after k).2 = false
          ∧ ((Channel.loaded d mode true).after k).1.running = true
          ∧ ((Channel.loaded d mode true).after k).1.remaining = some (actualDuration d - k))
      ∧ ((Channel.loaded d mode true).after (actualDuration d)).2 = true
      ∧ ((Channel.loaded d .periodic true).after (actualDuration d)).1 = Channel.loaded d .periodic true
      ∧ ((Channel.loaded d .single true).after (actualDuration d)).1
          = { Channel.loaded d .single true with running := false, count := 0, remainder := 0 }
      ∧ (Channel.loaded d mode false).after k = (Channel.loaded d mode false, false))

/-- Every step keeps every channel as R174 says a RUNNING and a STOPPED channel always are. -/
def Obligations.TimersStaySound : Prop := ∀ s t : State, s.tb.Sound → step s = .next t → t.tb.Sound

/-! ## Notice Queues (chapter 10) -/

/-- A posting takes the next serial; the notice joins its class queue while there is room and is dropped and counted
otherwise, and the other classes keep theirs (R182, R183). -/
def Obligations.PostingQueuesOrDrops : Prop :=
  ∀ (s : State) (cls : NoticeClass) (body : NoticeBody),
    s.post cls body = s.withNq (s.post cls body).nq
      ∧ (s.post cls body).nq.nextSerial
          = (if s.nq.nextSerial = 4294967295 then 1 else s.nq.nextSerial + 1)
      ∧ (s.post cls body).nq.classOrder = s.nq.classOrder ∧ (s.post cls body).nq.mask = s.nq.mask
      ∧ (∀ other, other ≠ cls → (s.post cls body).nq.queue other = s.nq.queue other)
      ∧ ((s.nq.queue cls).notices.length < cls.capacity →
          (s.post cls body).nq.queue cls
            = { s.nq.queue cls with
                notices := (s.nq.queue cls).notices ++ [⟨s.nq.nextSerial, cls, s.tb.time, body⟩]
                generated := (s.nq.queue cls).generated + 1 })
      ∧ (cls.capacity ≤ (s.nq.queue cls).notices.length →
          (s.post cls body).nq.queue cls
            = { s.nq.queue cls with
                generated := (s.nq.queue cls).generated + 1
                dropped := (s.nq.queue cls).dropped + 1
                sinceReport := min ((s.nq.queue cls).sinceReport + 1) 4294967295
                drops := some ((((s.nq.queue cls).drops.map (·.1)).getD s.tb.time), s.tb.time) })
      ∧ NoticeClass.safety.capacity = 64 ∧ NoticeClass.operations.capacity = 64 ∧ NoticeClass.service.capacity = 32

/-- FETCH takes notices class by class in the class order: of each class its OVERFLOW where its flag is set, then
notices from the head of its queue; at most the clamped count, in at most 980 bytes; a class is reached only when those
before it are empty. Taking goes on until the count is reached, the next notice, OVERFLOW or queued, would pass the 980
bytes, or nothing is left; so it comes back empty-handed only where every class is empty (R186, R187). -/
def Obligations.FetchTakesInClassOrder : Prop :=
  ∀ (s s₀ : State) (tag : Byte) (n : Nat), n < 256 → s.Takes ⟨0x60#8, tag, joinFields [1] [n]⟩ s₀ →
    s₀.nq.classOrder.Perm [.safety, .operations, .service] →
    ∃ (q : NoticeQueues) (overflow taken : NoticeClass → List Notice),
      exec (.fetch tag (joinFields [1] [n])) s
        = .next ((s₀.withNq q).answered 0x60#8 tag .ok (.fetch q.safety.figures q.operations.figures q.service.figures
            (s₀.nq.classOrder.flatMap fun c => overflow c ++ taken c)))
      ∧ (s₀.nq.classOrder.flatMap fun c => overflow c ++ taken c).length ≤ max 1 (min 16 n)
      ∧ ((s₀.nq.classOrder.flatMap fun c => overflow c ++ taken c).map Notice.size).sum ≤ 980
      ∧ q.nextSerial = s₀.nq.nextSerial ∧ q.classOrder = s₀.nq.classOrder ∧ q.mask = s₀.nq.mask
      ∧ (∀ c, (s₀.nq.queue c).notices = taken c ++ (q.queue c).notices
          ∧ (q.queue c).fetched = (s₀.nq.queue c).fetched + .ofNat 32 (taken c).length
          ∧ (q.queue c).generated = (s₀.nq.queue c).generated ∧ (q.queue c).dropped = (s₀.nq.queue c).dropped
          ∧ ((overflow c = [] ∧ (q.queue c).drops = (s₀.nq.queue c).drops
                ∧ (q.queue c).sinceReport = (s₀.nq.queue c).sinceReport
                ∧ (taken c ≠ [] → (s₀.nq.queue c).drops = none))
            ∨ ∃ first last, (s₀.nq.queue c).drops = some (first, last)
                ∧ overflow c = [⟨0, c, s₀.tb.time, .overflow c (s₀.nq.queue c).sinceReport first last⟩]
                ∧ (q.queue c).drops = none ∧ (q.queue c).sinceReport = 0))
      ∧ (∀ before c after, s₀.nq.classOrder = before ++ c :: after → overflow c ++ taken c ≠ [] →
          ∀ b ∈ before, (q.queue b).notices = [] ∧ (q.queue b).drops = none)
      ∧ (∀ before c after next, s₀.nq.classOrder = before ++ c :: after →
          (∀ b ∈ before, (q.queue b).notices = [] ∧ (q.queue b).drops = none) →
          ((∃ first last, (q.queue c).drops = some (first, last)
              ∧ next = ⟨0, c, s₀.tb.time, .overflow c (q.queue c).sinceReport first last⟩)
            ∨ (q.queue c).drops = none ∧ (q.queue c).notices.head? = some next) →
          (s₀.nq.classOrder.flatMap fun c => overflow c ++ taken c).length = max 1 (min 16 n)
            ∨ 980 < ((s₀.nq.classOrder.flatMap fun c => overflow c ++ taken c).map Notice.size).sum + next.size)
      ∧ ((∀ c, ∀ x ∈ (s₀.nq.queue c).notices, x.size ≤ 980) →
          (s₀.nq.classOrder.flatMap fun c => overflow c ++ taken c) = [] →
          ∀ c, (s₀.nq.queue c).notices = [] ∧ (s₀.nq.queue c).drops = none)

/-- For each notice class, generated equals fetched plus held plus dropped (R184); every step keeps it, with the
capacities and the overflow flags (section 10.2), the class order a permutation (R185) and no serial 0 (R182). -/
def Obligations.NoticeAccountsBalance : Prop := ∀ s t : State, s.nq.Sound → step s = .next t → t.nq.Sound

/-- ATTN is asserted while an unmasked class holds a notice or has its overflow flag set, and the part is not held in
reset (R188, R190). -/
def Obligations.AttnFollowsTheQueues : Prop :=
  ∀ s : State, s.attn = true ↔
    s.crl.held = false
      ∧ ∃ cls, s.nq.mask.of cls = false ∧ ((s.nq.queue cls).notices ≠ [] ∨ (s.nq.queue cls).drops.isSome = true)

/-! ## Identity, modes and parameters (chapter 11) -/

/-- IDENT returns the part number, the revision, the site number, the link rate, the restart cause, the mode and network
time, in every mode, and changes nothing (R200). -/
def Obligations.IdentReportsThePart : Prop :=
  ∀ (s s₀ : State) (tag : Byte), s.Takes ⟨0x01#8, tag, []⟩ s₀ →
    exec (.ident tag []) s = .next (s₀.answered 0x01#8 tag .ok
      (.ident 410 1 s₀.crl.siteStraps (linkRate s₀.crl.rateStraps) s₀.crl.cause s₀.crl.mode s₀.tb.time))

/-- STATUS returns the mode, the pending mode, the model valid flag, the cause, network time, the figures of the
classes, the hold flag and the counts of the tables, and changes nothing (R201). -/
def Obligations.StatusReportsTheState : Prop :=
  ∀ (s s₀ : State) (tag : Byte), s.Takes ⟨0x02#8, tag, []⟩ s₀ →
    ∃ r : StatusReport, exec (.status tag []) s = .next (s₀.answered 0x02#8 tag .ok (.status r))
      ∧ r.mode = s₀.crl.mode ∧ (r.pendingMode = some .configure ↔ s₀.crl.pendingConfigure = true)
      ∧ (r.pendingMode = none ↔ s₀.crl.pendingConfigure = false)
      ∧ (r.modelValid = true ↔ s₀.ms.derived ≠ none) ∧ r.cause = s₀.crl.cause ∧ r.time = s₀.tb.time
      ∧ r.safety = ⟨s₀.nq.safety.notices.length, s₀.nq.safety.dropped, s₀.nq.safety.drops.isSome⟩
      ∧ r.operations = ⟨s₀.nq.operations.notices.length, s₀.nq.operations.dropped, s₀.nq.operations.drops.isSome⟩
      ∧ r.service = ⟨s₀.nq.service.notices.length, s₀.nq.service.dropped, s₀.nq.service.drops.isSome⟩
      ∧ r.hold = s₀.vou.hold ∧ r.openIncidents = s₀.it.incidents.length
      ∧ r.busyContexts = ((List.range 8).filter fun c => (s₀.context c).state ≠ .free).length
      ∧ r.activeOutages = s₀.ou.active.length
      ∧ r.freeSlots = ((List.range 12).filter fun k => s₀.slot k = none).length
      ∧ r.waitingList = s₀.vou.waiting.length ∧ r.linkErrors = s₀.crl.linkErrors

/-- SET_PARAM with the write flag clear returns the value held, in every mode, and changes nothing. With it set, the
line and tier rows are written in CONFIGURE, the others in every mode, with the clamps of the table of section 11.6. A
write is refused, changing nothing, with MODE for a line or tier row outside CONFIGURE, and with RANGE for a value
outside a range the table marks RANGE. A read and a write are refused with RANGE for an unknown name, an index outside
its range, and an index given where there is none (R185, R199, R202). The model's reading of R202, marked DEDUCED: a
flag byte above 1 is refused with RANGE (log entry 10), and the class order is sent as a counted list, the class mask
as three flags, the value of an unknown name with any length, and an index left out of a row that has one is refused
with RANGE (log entry 11). That 1 in a flag of the class mask stands for masked is the model's choice (DESIGN CHOICE,
log entry 30). -/
def Obligations.SetParamReadsAndWrites : Prop :=
  (∀ (s : State) (v i : Nat) (t : Tier) (g : Grade),
    (s.crl.mode = .configure → i < 4 →
      (v < 65536 →
        s.ParamTaken 1 1 i [2] [v]
            (s.withMs (s.ms.withLine i { s.ms.lineOf i with replyTimeout := max 20 (min 2000 v) }))
          ∧ s.ParamTaken 2 1 i [2] [v]
              (s.withMs (s.ms.withLine i { s.ms.lineOf i with staleLimit := max 10 (min 6000 v) })))
      ∧ (v < 256 → s.ParamTaken 3 1 i [1] [v]
            (s.withMs (s.ms.withLine i { s.ms.lineOf i with retryLimit := max 1 (min 7 v) })))
      ∧ (v = 38400 ∨ v = 115200 → s.ParamTaken 4 1 i [3] [v] (s.withMs (s.ms.withLine i { s.ms.lineOf i with baud := v }))))
    ∧ (s.crl.mode = .configure → tierOf i = some t →
      (v ≤ 1048575 →
        s.ParamTaken 5 1 i [3] [v] (s.withMs (s.ms.withTier t { s.ms.tiers.of t with confirmDrop := v }))
          ∧ s.ParamTaken 6 1 i [3] [v] (s.withMs (s.ms.withTier t { s.ms.tiers.of t with ventThreshold := v })))
      ∧ (v < 65536 → s.ParamTaken 7 1 i [2] [v]
            (s.withMs (s.ms.withTier t { s.ms.tiers.of t with confirmTime := max 10 (min 36000 v) }))))
    ∧ (gradeOf i = some g →
      (v < 16777216 →
        s.ParamTaken 8 1 i [3] [v] (s.withIt { s.it with
            params := s.it.params.put { s.it.params.of g with attendTime := max 1 (min 4194240 v) } g })
          ∧ s.ParamTaken 9 1 i [3] [v] (s.withIt { s.it with
              params := s.it.params.put { s.it.params.of g with reminder := max 1 (min 4194240 v) } g }))
      ∧ (v ≤ 11 → s.ParamTaken 10 1 i [1] [v] (s.withIt { s.it with
            params := s.it.params.put { s.it.params.of g with maskWidth := v } g })))
    ∧ (v < 2 → s.ParamTaken 11 0 0 [1] [v] (s.withIt { s.it with autoIncident := v == 1 })
        ∧ s.ParamTaken 12 0 0 [1] [v] (s.withIt { s.it with autoPlan := v == 1 }))
    ∧ (∀ a b c : NoticeClass, [a, b, c].Nodup →
        s.ParamTaken 13 0 0 [1, 1, 1, 1] [3, a.code, b.code, c.code] (s.withNq { s.nq with classOrder := [a, b, c] }))
    ∧ (∀ a b c : Nat, a < 2 → b < 2 → c < 2 →
        s.ParamTaken 14 0 0 [1, 1, 1] [a, b, c] (s.withNq { s.nq with mask := ⟨a == 1, b == 1, c == 1⟩ }))
    ∧ (v < 16777216 →
        s.ParamTaken 15 0 0 [3] [v] (s.withOu { s.ou with reminder := max 1 (min 4194240 v) })))
  ∧ (∀ (s : State) (i : Nat) (t : Tier) (g : Grade),
    (i < 4 →
      s.ParamRead 1 1 i (.replyTimeout i) (.number (s.ms.lineOf i).replyTimeout)
        ∧ s.ParamRead 2 1 i (.staleLimit i) (.number (s.ms.lineOf i).staleLimit)
        ∧ s.ParamRead 3 1 i (.retryLimit i) (.number (s.ms.lineOf i).retryLimit)
        ∧ s.ParamRead 4 1 i (.baud i) (.number (s.ms.lineOf i).baud))
    ∧ (tierOf i = some t →
      s.ParamRead 5 1 i (.confirmDrop t) (.number (s.ms.tiers.of t).confirmDrop)
        ∧ s.ParamRead 6 1 i (.ventThreshold t) (.number (s.ms.tiers.of t).ventThreshold)
        ∧ s.ParamRead 7 1 i (.confirmTime t) (.number (s.ms.tiers.of t).confirmTime))
    ∧ (gradeOf i = some g →
      s.ParamRead 8 1 i (.attendTime g) (.number (s.it.params.of g).attendTime)
        ∧ s.ParamRead 9 1 i (.reminder g) (.number (s.it.params.of g).reminder)
        ∧ s.ParamRead 10 1 i (.maskWidth g) (.number (s.it.params.of g).maskWidth))
    ∧ (i < 256 →
      s.ParamRead 11 0 i .autoIncident (.flag s.it.autoIncident) ∧ s.ParamRead 12 0 i .autoPlan (.flag s.it.autoPlan)
        ∧ s.ParamRead 13 0 i .classOrder (.order s.nq.classOrder) ∧ s.ParamRead 14 0 i .classMask (.mask s.nq.mask)
        ∧ s.ParamRead 15 0 i .outageReminder (.number s.ou.reminder)))
  ∧ (∀ (s s₀ : State) (tag : Byte) (name presence index : Nat) (p : Parameter),
    name < 256 → presence < 256 → index < 256 → (optionalOf presence index).bind (parameterOf name) = some p →
    s.Takes ⟨0x04#8, tag, joinFields [1, 1, 1, 1] [name, presence, index, 0]⟩ s₀ →
      exec (.setParam tag (joinFields [1, 1, 1, 1] [name, presence, index, 0])) s
        = .next (s₀.answered 0x04#8 tag .ok (.parameter p (s₀.parameter p))))
  ∧ (∀ (s s₀ : State) (tag : Byte) (name presence index flag : Nat),
    name < 256 → presence < 256 → index < 256 → flag < 256 →
    (flag = 0 ∧ (optionalOf presence index).bind (parameterOf name) = none ∨ 1 < flag) →
    s.Takes ⟨0x04#8, tag, joinFields [1, 1, 1, 1] [name, presence, index, flag]⟩ s₀ →
      exec (.setParam tag (joinFields [1, 1, 1, 1] [name, presence, index, flag])) s
        = .next (s₀.answered 0x04#8 tag .range .empty))
  ∧ (∀ name presence index : Nat, (optionalOf presence index).bind (parameterOf name) = none ↔
      ¬(presence = 1 ∧ 1 ≤ name ∧ name ≤ 4 ∧ index < 4
        ∨ presence = 1 ∧ 5 ≤ name ∧ name ≤ 10 ∧ 1 ≤ index ∧ index ≤ 3 ∨ presence = 0 ∧ 11 ≤ name ∧ name ≤ 15))
  ∧ (∀ (s : State) (v i : Nat), i < 256 → s.crl.mode ≠ .configure →
    (i < 4 →
      (v < 65536 → s.ParamRefused 1 1 i [2] [v] .mode ∧ s.ParamRefused 2 1 i [2] [v] .mode)
        ∧ (v < 256 → s.ParamRefused 3 1 i [1] [v] .mode) ∧ (v < 16777216 → s.ParamRefused 4 1 i [3] [v] .mode))
    ∧ ((tierOf i).isSome = true →
      (v < 16777216 → s.ParamRefused 5 1 i [3] [v] .mode ∧ s.ParamRefused 6 1 i [3] [v] .mode)
        ∧ (v < 65536 → s.ParamRefused 7 1 i [2] [v] .mode)))
  ∧ (∀ (s : State) (v i presence : Nat), i < 256 → presence < 256 →
    (presence ≠ 1 ∨ 4 ≤ i →
      (v < 65536 → s.ParamRefused 1 presence i [2] [v] .range ∧ s.ParamRefused 2 presence i [2] [v] .range)
        ∧ (v < 256 → s.ParamRefused 3 presence i [1] [v] .range)
        ∧ (v < 16777216 → s.ParamRefused 4 presence i [3] [v] .range))
    ∧ (presence ≠ 1 ∨ i = 0 ∨ 3 < i →
      (v < 16777216 → s.ParamRefused 5 presence i [3] [v] .range ∧ s.ParamRefused 6 presence i [3] [v] .range
          ∧ s.ParamRefused 8 presence i [3] [v] .range ∧ s.ParamRefused 9 presence i [3] [v] .range)
        ∧ (v < 65536 → s.ParamRefused 7 presence i [2] [v] .range)
        ∧ (v < 256 → s.ParamRefused 10 presence i [1] [v] .range))
    ∧ (presence ≠ 0 →
      (v < 256 → s.ParamRefused 11 presence i [1] [v] .range ∧ s.ParamRefused 12 presence i [1] [v] .range)
        ∧ (∀ codes : List Nat, codes.length < 256 →
            s.ParamRefused 13 presence i (1 :: List.replicate codes.length 1) (codes.length :: codes) .range)
        ∧ (∀ a b c : Nat, s.ParamRefused 14 presence i [1, 1, 1] [a, b, c] .range)
        ∧ (v < 16777216 → s.ParamRefused 15 presence i [3] [v] .range))
    ∧ ∀ name width : Nat, name < 256 → name = 0 ∨ 15 < name → s.ParamRefused name presence i [width] [v] .range)
  ∧ (∀ (s : State) (v i : Nat), i < 256 →
    (s.crl.mode = .configure → i < 4 → v < 16777216 → v ≠ 38400 → v ≠ 115200 → s.ParamRefused 4 1 i [3] [v] .range)
    ∧ (s.crl.mode = .configure → (tierOf i).isSome = true → 1048575 < v → v < 16777216 →
        s.ParamRefused 5 1 i [3] [v] .range ∧ s.ParamRefused 6 1 i [3] [v] .range)
    ∧ ((gradeOf i).isSome = true → 11 < v → v < 256 → s.ParamRefused 10 1 i [1] [v] .range)
    ∧ (1 < v → v < 256 → s.ParamRefused 11 0 0 [1] [v] .range ∧ s.ParamRefused 12 0 0 [1] [v] .range)
    ∧ (∀ codes : List Nat, codes.length < 256 → (∀ a ∈ codes, a < 256) →
        (codes.length ≠ 3 ∨ ¬codes.Nodup ∨ ∃ a ∈ codes, a = 0 ∨ 3 < a) →
        s.ParamRefused 13 0 0 (1 :: List.replicate codes.length 1) (codes.length :: codes) .range)
    ∧ (∀ a b c : Nat, a < 256 → b < 256 → c < 256 → 1 < a ∨ 1 < b ∨ 1 < c →
        s.ParamRefused 14 0 0 [1, 1, 1] [a, b, c] .range))

/-- SET_MODE in CONFIGURE for SUPERVISE or OBSERVE: a model that fails validation is answered MODEL with the report of
the first check that fails, in the order of R13 and with the related index and count its row gives; one that passes
takes the mode, with the live state of every block set up, the first trace running and the controllers started (R12,
R18, R39, R59, R67, R87, R94, R155, R195). -/
def Obligations.SetModeLeavesConfigure : Prop :=
  (∀ (m : ModelStore) (report : FailureReport), m.wf → (m.firstFailure = some report ↔ m.FirstFails report))
  ∧ (∀ m : ModelStore, m.wf → (m.firstFailure = none ↔ ∀ row report, ¬m.Fails row report))
  ∧ ∀ (s s₀ : State) (tag : Byte) (value : Nat) (m : Mode),
    s₀.crl.mode = .configure → s₀.crl.pendingConfigure = false → (value = 2 ∧ m = .supervise ∨ value = 3 ∧ m = .observe) →
    s.Takes ⟨0x03#8, tag, joinFields [1] [value]⟩ s₀ →
      (∀ report, s₀.ms.firstFailure = some report →
        exec (.setMode tag (joinFields [1] [value])) s
          = .next ((s₀.withMs { s₀.ms with derived := none }).answered 0x03#8 tag .model (.failure report)))
      ∧ (s₀.ms.firstFailure = none →
        ∃ t : State, exec (.setMode tag (joinFields [1] [value])) s = .next (t.answered 0x03#8 tag .ok .empty)
          ∧ t.crl = { s₀.crl with mode := m }
          ∧ t.ms = { s₀.ms with derived := some s₀.ms.derive }
          ∧ t.it = s₀.it ∧ t.iu = s₀.iu ∧ t.tb = s₀.tb ∧ t.pending = s₀.pending
          ∧ (∀ p, t.pe.points.get p
              = (s₀.ms.points.get p).map fun _ => ⟨.awaiting, none, none, none, none, 0, false, none⟩)
          ∧ (∀ g, t.pe.conditions.get g = (s₀.ms.segments.get g).map fun _ => Condition.noData)
          ∧ (∀ v, t.vou.valves.get v = (s₀.ms.valves.get v).map fun r =>
              { position := if r.actuation = .manual then r.normal.position else .unknown
                settled := r.normal
                authority := if r.actuation = .remote then some .remote else none
                limitFault := false, travelFault := false, inhibit := false, slot := none })
          ∧ (∀ k, k < 12 → t.slot k = none) ∧ t.vou.hold = false ∧ t.vou.waiting = []
          ∧ (∀ g, t.me.fed.get g = (s₀.ms.segments.get g).map fun _ => true)
          ∧ t.me.state = .tracing t.passingValves false ∧ t.me.queue = [] ∧ t.me.pendingTrace = false
          ∧ (∀ g, t.ou.services.get g
              = (s₀.ms.segments.get g).map fun _ => ⟨.inService, none, none, true, .noData, none⟩)
          ∧ t.ou.records = s₀.ou.records ∧ t.ou.active = s₀.ou.active
          ∧ (∀ l, l < 4 →
              (s₀.lineUsed l = false → t.controller l = ⟨.idle, none, 0, 0⟩)
              ∧ (s₀.lineUsed l = true → (t.controller l).state ≠ .stopped ∧ (t.controller l).cycleCount = 0
                  ∧ (t.controller l).orderRun = 0))
          ∧ t.flc.stations = s₀.flc.stations
          ∧ t.nq = s₀.nq.post .operations s₀.tb.time (.modeChanged .configure m))

/-- The other answers of SET_MODE: RANGE for a value that is no mode; the mode it has already, taken with no effect;
while a change to CONFIGURE is pending, ACCEPTED for CONFIGURE and STATE for the others (R194, R197). The change to
SUPERVISE takes the mode and posts it, and nothing else. On the change to OBSERVE, and on a change to CONFIGURE that
becomes pending, the waiting list empties and every WAITING order ends ABORTED_MODE, its slot and its valve free, while
SENT and MOVING orders run on; a context in EXECUTING that asked for such an order returns to PLANNED; MODE_CHANGED is
posted last, where the mode changes (R82, R142, R194, R196, R197). A pending change takes effect at once where no order
runs on (R198). -/
def Obligations.SetModeInService : Prop :=
  ∀ (s s₀ : State) (tag : Byte) (value : Nat), value < 256 → s.Takes ⟨0x03#8, tag, joinFields [1] [value]⟩ s₀ →
    let running (k : Nat) : Option Order := (s₀.slot k).bind fun o => if o.stage = .waiting then none else some o
    let noRecall : Prop := ∀ k o, s₀.slot k = some o → o.stage = .waiting → o.action = .recall →
      ∀ x, s₀.vou.valves.get o.valve = some x → x.authority ≠ some .recallPending
    let aborted (q : NoticeQueues) (slot : Option Nat) (v : Nat) (a : Action) (origin : Origin) (n : Nat) : NoticeQueues :=
      q.post .operations s₀.tb.time (.orderOutcome slot v a origin .abortedMode n)
    let ended : NoticeQueues := (List.range 12).foldl
      (fun q k => match s₀.slot k with
        | some o => if o.stage = .waiting then aborted q (some k) o.valve o.action o.origin o.attempts else q
        | none => q)
      (s₀.vou.waiting.foldl (fun q e => aborted q none e.valve e.action (.context e.context) 0) s₀.nq)
    (value = 0 ∨ 3 < value → exec (.setMode tag (joinFields [1] [value])) s = .next (s₀.answered 0x03#8 tag .range .empty))
    ∧ (s₀.crl.pendingConfigure = true → value = 1 →
        exec (.setMode tag (joinFields [1] [value])) s = .next (s₀.answered 0x03#8 tag .accepted .empty))
    ∧ (s₀.crl.pendingConfigure = true → value = 2 ∨ value = 3 →
        exec (.setMode tag (joinFields [1] [value])) s = .next (s₀.answered 0x03#8 tag .state .empty))
    ∧ (s₀.crl.pendingConfigure = false → modeOf value = some s₀.crl.mode →
        exec (.setMode tag (joinFields [1] [value])) s = .next (s₀.answered 0x03#8 tag .ok .empty))
    ∧ (s₀.crl.pendingConfigure = false → s₀.crl.mode = .observe → value = 2 →
        exec (.setMode tag (joinFields [1] [value])) s
          = .next (((s₀.withCrl { s₀.crl with mode := .supervise }).post .operations
              (.modeChanged .observe .supervise)).answered 0x03#8 tag .ok .empty))
    ∧ (s₀.crl.pendingConfigure = false → s₀.crl.mode = .supervise → value = 3 →
        ∃ t : State, exec (.setMode tag (joinFields [1] [value])) s = .next (t.answered 0x03#8 tag .ok .empty)
          ∧ t.crl = { s₀.crl with mode := .observe } ∧ t.ms = s₀.ms ∧ t.flc = s₀.flc
          ∧ t.tb.time = s₀.tb.time ∧ t.pending = s₀.pending
          ∧ t.vou.waiting = [] ∧ (∀ k, k < 12 → t.slot k = running k)
          ∧ (∀ k o y, k < 12 → s₀.slot k = some o → o.stage = .waiting → t.vou.valves.get o.valve = some y → y.slot = none)
          ∧ (∃ q : NoticeQueues, t.nq = q.post .operations s₀.tb.time (.modeChanged .supervise .observe))
          ∧ (noRecall → s₀.vou.waiting = [] → (∀ k o, s₀.slot k = some o → o.stage = .waiting → o.origin = .host) →
              t.nq = ended.post .operations s₀.tb.time (.modeChanged .supervise .observe))
          ∧ (noRecall → ∀ c v, c < 8 → (s₀.context c).state = .executing →
              ((∃ e ∈ s₀.vou.waiting, e.context = c ∧ e.valve = v ∧ e.action = .close)
                ∨ ∃ k o, k < 12 ∧ s₀.slot k = some o ∧ o.stage = .waiting ∧ o.origin = .context c ∧ o.valve = v
                    ∧ o.action = .close) →
              ∀ e ∈ (s₀.context c).boundary, e.valve = v →
                (t.context c).state = .planned ∧ ∃ e' ∈ (t.context c).boundary, e'.valve = v
                  ∧ e'.status = if e.status = .closed then .closed else .openTodo))
    ∧ (s₀.crl.pendingConfigure = false → s₀.crl.mode ≠ .configure → value = 1 → s₀.mayConfigure = false →
        exec (.setMode tag (joinFields [1] [value])) s = .next (s₀.answered 0x03#8 tag .state .empty))
    ∧ (s₀.crl.pendingConfigure = false → s₀.crl.mode ≠ .configure → value = 1 → s₀.mayConfigure = true →
        ∃ (t : State) (code : ResultCode), exec (.setMode tag (joinFields [1] [value])) s = .next (t.answered 0x03#8 tag code .empty)
          ∧ t.ms = s₀.ms ∧ t.tb.time = s₀.tb.time ∧ t.pending = s₀.pending
          ∧ ((∃ k o, k < 12 ∧ s₀.slot k = some o ∧ o.stage ≠ .waiting) →
              code = .accepted ∧ t.crl = { s₀.crl with pendingConfigure := true } ∧ t.ordersBusy = true ∧ t.flc = s₀.flc
                ∧ t.vou.waiting = [] ∧ (∀ k, k < 12 → t.slot k = running k)
                ∧ (∀ k o y, k < 12 → s₀.slot k = some o → o.stage = .waiting → t.vou.valves.get o.valve = some y →
                    y.slot = none)
                ∧ (noRecall → t.nq = ended))
          ∧ ((∀ k o, k < 12 → s₀.slot k = some o → o.stage = .waiting) →
              code = .ok ∧ t.crl = { s₀.crl with mode := .configure } ∧ t.flc = .reset ∧ t.pe = .reset
                ∧ t.vou = .reset ∧ t.me = .reset ∧ t.ou.services = .empty
                ∧ (noRecall → (∀ n, n < 16 → (s₀.outage n).state ≠ .active) →
                    t.nq = ended.post .operations s₀.tb.time (.modeChanged s₀.crl.mode .configure))))
    ∧ (s₀.mayConfigure = true ↔
        s₀.it.incidents = [] ∧ (∀ c, c < 8 → (s₀.context c).state = .free) ∧ s₀.ou.active = [])

/-- Every step keeps the request list within four frames and a pending change to CONFIGURE outside CONFIGURE, and keeps
the blocks without live state in CONFIGURE (R17, R38, R39, R59, R67, R87, R155, R192, R198, section 11.5). -/
def Obligations.LinkAndModeStaySound : Prop :=
  (∀ s t : State, s.crl.Sound → step s = .next t → t.crl.Sound)
  ∧ (∀ s t : State, s.NoLiveState → step s = .next t → t.NoLiveState)

/-- The state after reset meets every invariant that the statements of this file say a step keeps. -/
def Obligations.ResetIsSound : Prop :=
  State.reset.tb.Sound ∧ State.reset.nq.Sound ∧ State.reset.flc.Sound ∧ State.reset.crl.Sound
    ∧ State.reset.NoLiveState ∧ State.reset.ModelValid ∧ State.reset.ms.wf ∧ State.reset.OutagesSound

/-! ## Network Model (chapter 1) -/

/-- The LOAD requests and MODEL_CLEAR in CONFIGURE: each record with its clamps, written whole, the validation lost; a
field or an index out of range refused with RANGE. Outside CONFIGURE, a pending change included, they and LOAD_VALVE
and LOAD_POINT are refused with MODE and change nothing (R2, R3, R8 to R11). -/
def Obligations.LoadsWriteTheirRecord : Prop :=
  (∀ (s s₀ : State) (tag : Byte), s₀.crl.mode = .configure →
    (∀ index tier points critical key : Nat, index < 65536 → tier < 256 → points < 65536 → critical < 256 →
      key < 16777216 → s.Takes ⟨0x11#8, tag, joinFields [2, 1, 2, 1, 3] [index, tier, points, critical, key]⟩ s₀ →
      exec (.loadSegment tag (joinFields [2, 1, 2, 1, 3] [index, tier, points, critical, key])) s
        = .next (match tierOf tier with
          | none => s₀.answered 0x11#8 tag .range .empty
          | some t =>
            if index < 384 then
              (s₀.withMs { s₀.ms with
                segments := s₀.ms.segments.set index ⟨t, points, critical, .ofNat 24 key⟩
                derived := none }).answered 0x11#8 tag .ok .empty
            else s₀.answered 0x11#8 tag .range .empty))
    ∧ (∀ index line address : Nat, index < 256 → line < 256 → address < 256 →
      s.Takes ⟨0x14#8, tag, joinFields [1, 1, 1] [index, line, address]⟩ s₀ →
      exec (.loadStation tag (joinFields [1, 1, 1] [index, line, address])) s
        = .next (if index < 64 ∧ line < 4 ∧ 1 ≤ address ∧ address ≤ 31 then
            (s₀.withMs { s₀.ms with stations := s₀.ms.stations.set index ⟨line, address⟩, derived := none }).answered
              0x14#8 tag .ok .empty
          else s₀.answered 0x14#8 tag .range .empty))
    ∧ (∀ line reply stale retry baud : Nat, line < 256 → reply < 65536 → stale < 65536 → retry < 256 → baud < 16777216 →
      s.Takes ⟨0x15#8, tag, joinFields [1, 2, 2, 1, 3] [line, reply, stale, retry, baud]⟩ s₀ →
      exec (.loadLine tag (joinFields [1, 2, 2, 1, 3] [line, reply, stale, retry, baud])) s
        = .next (if line < 4 ∧ (baud = 38400 ∨ baud = 115200) then
            (s₀.withMs (s₀.ms.withLine line
              ⟨max 20 (min 2000 reply), max 10 (min 6000 stale), max 1 (min 7 retry), baud⟩)).answered 0x15#8 tag .ok .empty
          else s₀.answered 0x15#8 tag .range .empty))
    ∧ (∀ tier drop vent time : Nat, tier < 256 → drop < 16777216 → vent < 16777216 → time < 65536 →
      s.Takes ⟨0x16#8, tag, joinFields [1, 3, 3, 2] [tier, drop, vent, time]⟩ s₀ →
      exec (.loadTier tag (joinFields [1, 3, 3, 2] [tier, drop, vent, time])) s
        = .next (match tierOf tier with
          | none => s₀.answered 0x16#8 tag .range .empty
          | some t =>
            if drop ≤ 1048575 ∧ vent ≤ 1048575 then
              (s₀.withMs (s₀.ms.withTier t ⟨drop, vent, max 10 (min 36000 time)⟩)).answered 0x16#8 tag .ok .empty
            else s₀.answered 0x16#8 tag .range .empty))
    ∧ (s.Takes ⟨0x10#8, tag, []⟩ s₀ →
      exec (.modelClear tag []) s
        = .next ((s₀.withMs ⟨.empty, .empty, .empty, .empty, .replicate 4 ⟨100, 300, 3, 38400⟩,
            ⟨⟨1000, 500, 3000⟩, ⟨20000, 2000, 3000⟩, ⟨100000, 10000, 3000⟩⟩, none⟩).answered 0x10#8 tag .ok .empty)))
  ∧ (∀ (s s₀ : State) (tag : Byte) (body : List Byte), s₀.crl.mode ≠ .configure →
    (s.Takes ⟨0x10#8, tag, body⟩ s₀ → body.length = 0 →
        exec (.modelClear tag body) s = .next (s₀.answered 0x10#8 tag .mode .empty))
      ∧ (s.Takes ⟨0x11#8, tag, body⟩ s₀ → body.length = 9 →
        exec (.loadSegment tag body) s = .next (s₀.answered 0x11#8 tag .mode .empty))
      ∧ (s.Takes ⟨0x12#8, tag, body⟩ s₀ → body.length = 17 →
        exec (.loadValve tag body) s = .next (s₀.answered 0x12#8 tag .mode .empty))
      ∧ (s.Takes ⟨0x13#8, tag, body⟩ s₀ → body.length = 34 →
        exec (.loadPoint tag body) s = .next (s₀.answered 0x13#8 tag .mode .empty))
      ∧ (s.Takes ⟨0x14#8, tag, body⟩ s₀ → body.length = 3 →
        exec (.loadStation tag body) s = .next (s₀.answered 0x14#8 tag .mode .empty))
      ∧ (s.Takes ⟨0x15#8, tag, body⟩ s₀ → body.length = 9 →
        exec (.loadLine tag body) s = .next (s₀.answered 0x15#8 tag .mode .empty))
      ∧ (s.Takes ⟨0x16#8, tag, body⟩ s₀ → body.length = 9 →
        exec (.loadTier tag body) s = .next (s₀.answered 0x16#8 tag .mode .empty)))

/-- LOAD_VALVE in CONFIGURE: the record its fields describe is stored; fields that describe none, and an index above
511, are refused with RANGE. LOAD_POINT: a record within the ranges of R6 whose thresholds keep the three gaps of R7 is
stored with its clamps; any other is refused with RANGE (R2, R4 to R7). -/
def Obligations.ValvesAndPointsAreLoaded : Prop :=
  (∀ (s s₀ : State) (tag : Byte) (index : Nat) (f : ValveFields) (body : List Byte), s₀.crl.mode = .configure →
    body = joinFields [2, 1, 1, 2, 2, 1, 1, 1, 1, 1, 2, 2]
      [index, f.kind, f.presentA, f.sideA, f.sideB, f.actuation, f.presentStation, f.station, f.channel, f.normal,
        f.travel, f.answer] →
    index < 65536 → f.kind < 256 → f.presentA < 256 → f.sideA < 65536 → f.sideB < 65536 → f.actuation < 256 →
    f.presentStation < 256 → f.station < 256 → f.channel < 256 → f.normal < 256 → f.travel < 65536 → f.answer < 65536 →
    s.Takes ⟨0x12#8, tag, body⟩ s₀ →
      (∀ r, f.Describe r → index < 512 →
        exec (.loadValve tag body) s
          = .next ((s₀.withMs { s₀.ms with valves := s₀.ms.valves.set index r, derived := none }).answered
              0x12#8 tag .ok .empty))
      ∧ ((∀ r, ¬f.Describe r) ∨ 512 ≤ index →
        exec (.loadValve tag body) s = .next (s₀.answered 0x12#8 tag .range .empty)))
  ∧ (∀ (s s₀ : State) (tag : Byte) (index offset : Nat) (r : PointRec) (body : List Byte), s₀.crl.mode = .configure →
    body = joinFields [1, 2, 1, 1, 3, 3, 1, 2, 2, 2, 3, 1, 3, 3, 3, 3]
      [index, r.segment, r.station, r.channel, r.fullScale, offset, r.filterShift, r.hysteresis, r.persistEnter,
        r.persistClear, r.fallRate, r.fallCount, r.lowAlarm, r.lowWarn, r.highWarn, r.highAlarm] →
    index < 256 → r.segment < 65536 → r.station < 256 → r.channel < 256 → r.fullScale < 16777216 → offset < 16777216 →
    r.zeroOffset = (if offset < 8388608 then (offset : Int) else (offset : Int) - 16777216) →
    r.filterShift < 256 → r.hysteresis < 65536 → r.persistEnter < 65536 → r.persistClear < 65536 →
    r.fallRate < 16777216 → r.fallCount < 256 → r.lowAlarm < 16777216 → r.lowWarn < 16777216 → r.highWarn < 16777216 →
    r.highAlarm < 16777216 → s.Takes ⟨0x13#8, tag, body⟩ s₀ →
      exec (.loadPoint tag body) s = .next
        (if r.segment < 384 ∧ r.station < 64 ∧ 1000 ≤ r.fullScale ∧ r.fullScale ≤ 1048575 ∧ -65536 ≤ r.zeroOffset
            ∧ r.zeroOffset ≤ 65535 ∧ r.fallRate ≤ 8388607 ∧ r.lowAlarm ≤ 1048575 ∧ r.lowWarn ≤ 1048575
            ∧ r.highWarn ≤ 1048575 ∧ r.highAlarm ≤ 1048575 ∧ r.hysteresis < (r.lowWarn : Int) - r.lowAlarm
            ∧ 2 * r.hysteresis < (r.highWarn : Int) - r.lowWarn ∧ r.hysteresis < (r.highAlarm : Int) - r.highWarn then
          (s₀.withMs { s₀.ms with
            points := s₀.ms.points.set index { r with
              filterShift := min 7 r.filterShift
              persistEnter := min 6000 r.persistEnter
              persistClear := min 6000 r.persistClear
              fallCount := max 1 (min 8 r.fallCount) }
            derived := none }).answered 0x13#8 tag .ok .empty
        else s₀.answered 0x13#8 tag .range .empty))

/-- READ_SEGMENT, READ_VALVE, READ_POINT and READ_STATION: RANGE, NOT_FOUND, or the record with its derived lists and
its live fields as they stand; nothing changes (R15, R16). -/
def Obligations.ReadsReportTheModel : Prop :=
  ∀ (s s₀ : State) (tag : Byte) (n : Nat),
    (n < 65536 → s.Takes ⟨0x18#8, tag, joinFields [2] [n]⟩ s₀ →
      exec (.readSegment tag (joinFields [2] [n])) s = .next
        (if 384 ≤ n then s₀.answered 0x18#8 tag .range .empty
        else match s₀.ms.segments.get n with
          | none => s₀.answered 0x18#8 tag .notFound .empty
          | some r => s₀.answered 0x18#8 tag .ok
              (.segment r (s₀.ms.tiers.of r.tier) (s₀.ms.derived.bind fun d => d.adjacent.get n)
                (s₀.ms.derived.bind fun d => d.segmentPoints.get n)
                (match s₀.me.fed.get n, s₀.pe.conditions.get n, s₀.ou.services.get n with
                  | some fed, some condition, some x =>
                    some ⟨fed, condition, x.state, x.outage, s₀.memberOf n⟩
                  | _, _, _ => none))))
    ∧ (n < 65536 → s.Takes ⟨0x19#8, tag, joinFields [2] [n]⟩ s₀ →
      exec (.readValve tag (joinFields [2] [n])) s = .next
        (if 512 ≤ n then s₀.answered 0x19#8 tag .range .empty
        else match s₀.ms.valves.get n with
          | none => s₀.answered 0x19#8 tag .notFound .empty
          | some r => s₀.answered 0x19#8 tag .ok (.valve r (s₀.vou.valves.get n))))
    ∧ (n < 256 → s.Takes ⟨0x1A#8, tag, joinFields [1] [n]⟩ s₀ →
      exec (.readPoint tag (joinFields [1] [n])) s = .next
        (match s₀.ms.points.get n with
          | none => s₀.answered 0x1A#8 tag .notFound .empty
          | some r => s₀.answered 0x1A#8 tag .ok (.point r (s₀.pe.points.get n))))
    ∧ (n < 256 → s.Takes ⟨0x1B#8, tag, joinFields [1] [n]⟩ s₀ →
      exec (.readStation tag (joinFields [1] [n])) s = .next
        (if 64 ≤ n then s₀.answered 0x1B#8 tag .range .empty
        else match s₀.ms.stations.get n with
          | none => s₀.answered 0x1B#8 tag .notFound .empty
          | some r => s₀.answered 0x1B#8 tag .ok
              (.station r (s₀.ms.lineOf r.line) (s₀.ms.derived.bind fun d => d.pointMap.get n)
                (s₀.ms.derived.bind fun d => d.valveMap.get n)
                (if s₀.crl.mode = .configure then none
                else some ⟨(s₀.station n).health, (s₀.station n).counter,
                  if (s₀.station n).health = .lost then some (s₀.station n).goodRun else none⟩))))

/-- Validation passes exactly the models that meet the fourteen checks of R13, and keeps the derived lists then; a
model that fails one has none. The derived lists hold, per loaded segment, the valves and the points that name it,
rising; per loaded outstation and channel 0..7, the lowest-indexed point and the lowest-indexed valve on it (R12 to
R14). -/
def Obligations.ValidationIsExact : Prop :=
  (∀ m : ModelStore, m.wf →
    (∀ g, m.segments.get g = none → m.derive.adjacent.get g = none ∧ m.derive.segmentPoints.get g = none)
    ∧ (∀ g r, m.segments.get g = some r → ∃ valves points,
        m.derive.adjacent.get g = some valves ∧ m.derive.segmentPoints.get g = some points
          ∧ valves.Pairwise (· < ·) ∧ points.Pairwise (· < ·)
          ∧ (∀ i, i ∈ valves ↔ ∃ v, m.valves.get i = some v ∧ (v.sideA = .segment g ∨ v.sideB = g))
          ∧ ∀ i, i ∈ points ↔ ∃ p, m.points.get i = some p ∧ p.segment = g)
    ∧ (∀ st, m.stations.get st = none → m.derive.pointMap.get st = none ∧ m.derive.valveMap.get st = none)
    ∧ ∀ st r, m.stations.get st = some r → ∃ points valves,
        m.derive.pointMap.get st = some points ∧ m.derive.valveMap.get st = some valves
          ∧ points.Pairwise (fun a b => a.1 < b.1) ∧ valves.Pairwise (fun a b => a.1 < b.1)
          ∧ (∀ ch i, (ch, i) ∈ points ↔ ch < 8
              ∧ (∃ p, m.points.get i = some p ∧ p.station = st ∧ p.channel = ch)
              ∧ ∀ j p, j < i → m.points.get j = some p → ¬(p.station = st ∧ p.channel = ch))
          ∧ ∀ ch i, (ch, i) ∈ valves ↔ ch < 8
              ∧ (∃ v, m.valves.get i = some v ∧ v.station = some st ∧ v.channel = some ch)
              ∧ ∀ j v, j < i → m.valves.get j = some v → ¬(v.station = some st ∧ v.channel = some ch))
  ∧ (∀ m : ModelStore, m.wf →
    (m.firstFailure = none ↔ m.Valid)
      ∧ (m.Valid → m.validate = ({ m with derived := some m.derive }, none))
      ∧ (¬m.Valid → ∃ report, m.validate = ({ m with derived := none }, some report)))

/-- Static records change only in CONFIGURE: a step whose command finds another mode leaves the Model Store as it
stands, and so does every step of a part held in reset, but for the two releases of reset. What a command finds is the
part with the expiries of the last tick delivered, which may let a pending change to CONFIGURE take effect first (R179,
R198, log entry 5). Every step keeps the model valid outside CONFIGURE, with the derived lists those of the loaded
records, and keeps the tables in canonical form, an index once and in its range (R1, R2). -/
def Obligations.ModelStandsInService : Prop :=
  (∀ s d t : State, s.Finds d ∧ d.crl.mode ≠ .configure ∨ s.crl.held = true → step s = .next t →
    t.ms = s.ms ∨ ∃ rate site rest, s.pending = .powerOn rate site :: rest ∨ s.pending = .resetPin rate site :: rest)
  ∧ (∀ s t : State, s.ModelValid → step s = .next t → t.ModelValid)
  ∧ (∀ s t : State, s.ms.wf → step s = .next t → t.ms.wf)

/-! ## Field lines and outstations (chapter 2) -/

/-- The health counter falls by 1 at a good reply and rises by 8 at any other end, within 0..255; it decides the state
in HEALTHY and DEGRADED; a LOST outstation recovers at its fourth good scan in a row, to DEGRADED with counter 64 (R28
to R31). -/
def Obligations.HealthFollowsTheCounter : Prop :=
  ∀ (x : StationLive) (good scan : Bool),
    let n := if good then x.counter - 1 else min (x.counter + 8) 255
    let y := x.afterTransaction good scan
    y.stats = x.stats
      ∧ (x.health ≠ .lost → y.counter = n
          ∧ (y.health = .lost ↔ 128 ≤ n)
          ∧ (y.health = .degraded ↔ n < 128 ∧ (x.health = .healthy ∧ 64 ≤ n ∨ x.health = .degraded ∧ 32 ≤ n))
          ∧ (y.health = .healthy ↔ x.health = .healthy ∧ n < 64 ∨ x.health = .degraded ∧ n < 32)
          ∧ (y.health = .lost → y.goodRun = 0))
      ∧ (x.health = .lost → scan = true → good = true → 3 ≤ x.goodRun →
          y.health = .degraded ∧ y.counter = 64 ∧ y.goodRun = 0)
      ∧ (x.health = .lost → ¬(scan = true ∧ good = true ∧ 3 ≤ x.goodRun) →
          y.health = .lost ∧ y.counter = n
            ∧ y.goodRun = if scan then (if good then x.goodRun + 1 else 0) else x.goodRun)
      ∧ (x.Sound → y.Sound ∧ (x.health = .healthy → y.health ≠ .lost))

/-- The end of a transaction: the health and the statistics of the outstation it addressed, no other outstation's
health, the hand-over of its result, and the next choice of its line (R23, R28 to R31, R35). Good replies are counted
before a BUSY or REJECT answer (R36 leaves the order of their two notices open; DESIGN CHOICE, log entry 29). A scan ends with a valid
report, a bad reply or the timeout; an order with its answer, a bad reply or the timeout. A report is handed on by the
state after the update (R34): all of it in HEALTHY or DEGRADED, the point entries as one delivery at the arrival time
and the valve entries as another, in either order (log entry 4); the valve entries alone where it has just recovered;
nothing in LOST. Only then does a scan's end move the scan position (log entry 26). An order's answer, or no reply for
a bad reply and a timeout, is judged with the health after the update (R27). A delivery takes its samples in ascending
point, then derives the condition of each segment with a point whose state or zone changed, in ascending segment, and a
new condition reaches the Outage Unit; its valve entries in ascending valve (R40, R55, R61). A change of health posts
STATION_HEALTH, moves the gates of the outstation's MOVING orders, and at LOST reaches its points and valves (R30, R32,
R33). -/
def Obligations.TransactionEnds : Prop :=
  (∀ (s d : State) (line : Fin 4) (order : DeliveryOrder) (st : Nat) (r : StationRec) (bytes : List Byte),
    s.Finds d → d.crl.pendingConfigure = false → st < 64 → d.ms.stations.get st = some r →
    ((d.controller line).state = .inTransaction (.scan st) →
      (∀ report, judgeField r.address .report bytes = .report report →
        ∃ (samples : List (Nat × Nat)) (readings : List ValveReading),
          samples.Pairwise (fun a b => a.1 < b.1) ∧ readings.Pairwise (fun a b => a.valve < b.valve)
          ∧ (d.ms.wf → d.ms.derived = some d.ms.derive →
            (∀ p raw, (p, raw) ∈ samples ↔ ∃ ch, (ch, p) ∈ d.ms.pointMapOf st ∧ report.counts[ch]? = some raw)
            ∧ (∀ v a b l, ⟨v, a, b, l⟩ ∈ readings ↔
                ∃ ch, (ch, v) ∈ d.ms.valveMapOf st ∧ report.valves[ch]? = some ⟨a, b, l⟩))
          ∧ s.Ends d (.stationReport line bytes order) line st true none order [.goodReplies] fun u =>
              if (u.station st).health = .lost then u
              else if (d.station st).health = .lost then u.deliverReadings readings
              else match order with
                | .pointsFirst => (u.deliverSamples d.tb.time samples).deliverReadings readings
                | .valvesFirst => (u.deliverReadings readings).deliverSamples d.tb.time samples)
      ∧ (judgeField r.address .report bytes = .bad →
        s.Ends d (.badReply line bytes order) line st false none order [.badReplies] id)
      ∧ s.Ends d (.replyTimeout line order) line st false none order [.timeouts] id)
    ∧ ∀ k o, d.slot k = some o → (d.controller line).state = .inTransaction (.order st k) →
      let judged (x : TransactionResult) (u : State) : State := u.judgeTransaction k x (u.station st).health
      (∀ a, judgeField r.address (.answer (d.channelOf o.valve)) bytes = .answer a →
        s.Ends d (.orderAnswer line bytes order) line st true (some k) order
          (match a with
          | .busy => [.goodReplies, .busyAnswers]
          | .rejectLocal => [.goodReplies, .rejectAnswers]
          | .rejectFault => [.goodReplies, .rejectAnswers]
          | _ => [.goodReplies])
          (judged a))
      ∧ (judgeField r.address (.answer (d.channelOf o.valve)) bytes = .bad →
        s.Ends d (.badReply line bytes order) line st false (some k) order [.badReplies] (judged .noReply))
      ∧ s.Ends d (.replyTimeout line order) line st false (some k) order [.timeouts] (judged .noReply))
  ∧ (∀ (s : State) (t : Time) (samples : List (Nat × Nat)) (readings : List ValveReading),
    s.deliverReadings readings = readings.foldl State.deliverReading s
    ∧ ∀ u : State, u = samples.foldl (fun x e => x.sample t e.1 e.2) s →
      ∃ segments : List Nat, segments.Pairwise (· < ·)
        ∧ s.deliverSamples t samples = segments.foldl State.deriveCondition u
        ∧ ∀ g, g ∈ segments ↔ ∃ p raw rec x y, (p, raw) ∈ samples ∧ s.ms.points.get p = some rec ∧ rec.segment = g
            ∧ s.pe.points.get p = some x ∧ u.pe.points.get p = some y ∧ (x.state ≠ y.state ∨ x.zone ≠ y.zone))
  ∧ (∀ (s : State) (g : Nat) (old new : Condition), s.pe.conditions.get g = some old → new = conditionOf (s.validZones g) →
    (new = old → s.deriveCondition g = s)
    ∧ (new ≠ old → s.deriveCondition g
        = (s.withPe { s.pe with conditions := s.pe.conditions.set g new }).deliverCondition g new))
  ∧ ∀ (s : State) (st : Nat) (r : StationRec) (good scan : Bool) (own : Option Nat) (order : DeliveryOrder)
      (x y : StationLive) (u v : State), s.ms.stations.get st = some r → x = s.station st →
    y = x.afterTransaction good scan → v = s.updateHealth st good scan own order →
    u = (s.setStation st y).post .operations (.stationHealth st r.line r.address x.health y.health y.counter
      (if x.health = .lost then .recovery else .counter)) →
    (y.health = x.health → v = s.setStation st y)
    ∧ (y.health ≠ x.health →
      (y.health = .healthy ∨ y.health = .degraded →
        v.nq = u.nq ∧ v.flc = u.flc ∧ v.vou = u.vou ∧ v.pe = u.pe ∧ ∀ k, k < 12 → v.channel (48 + k)
          = match s.slot k with
            | none => s.channel (48 + k)
            | some o => if o.stage = .moving ∧ (s.ms.valves.get o.valve).bind (·.station) = some st
                then (s.channel (48 + k)).gate (y.health == .healthy) else s.channel (48 + k))
      ∧ (y.health = .lost → v = match order with
        | .pointsFirst => (u.losePoints st).loseValves st own
        | .valvesFirst => (u.loseValves st own).losePoints st))

/-- The end of a quiet wait completes the pass: the cycle count advances by 1, wrapping from 7 to 0, and the controller
chooses its next transaction; no outstation's health moves. A line that is in no transaction discards what arrives on
it, and a timeout that ends nothing has no effect (R19, R20, R23). -/
def Obligations.QuietWaitEndsThePass : Prop :=
  (∀ (s d : State) (line : Fin 4), s.Finds d → (d.controller line).state = .quiet →
    ∃ t : State, exec (.quietWaitEnd line) s = .next t
      ∧ (t.controller line).cycleCount = ((d.controller line).cycleCount + 1) % 8
      ∧ ((t.controller line).state = .quiet ∨ ∃ tx, (t.controller line).state = .inTransaction tx)
      ∧ (∀ other : Fin 4, other ≠ line → t.controller other = d.controller other)
      ∧ (∀ j, (t.station j).health = (d.station j).health ∧ (t.station j).counter = (d.station j).counter
          ∧ (t.station j).goodRun = (d.station j).goodRun)
      ∧ t.ms = d.ms ∧ t.crl = d.crl ∧ t.tb.time = d.tb.time ∧ t.pending = d.pending)
  ∧ (∀ (s d : State) (line : Fin 4) (bytes : List Byte) (order : DeliveryOrder), s.Finds d →
    (∀ tx, (d.controller line).state ≠ .inTransaction tx) →
      exec (.stationReport line bytes order) s = .next d ∧ exec (.orderAnswer line bytes order) s = .next d
        ∧ exec (.badReply line bytes order) s = .next d ∧ exec (.replyTimeout line order) s = .next d
        ∧ ((d.controller line).state ≠ .quiet → exec (.quietWaitEnd line) s = .next d))

/-- The choice of R25: after four orders in a row a scan; otherwise, among the eligible orders, the one with the
highest priority, then the earliest WAITING time, then the lowest slot; a scan where none is eligible. The earliest
WAITING time is the one of the greatest age modulo 2^32 (DEDUCED, log entry 16). The choice first hands back, in
ascending slot, each OPEN or CLOSE order that LOCAL or RECALL_PENDING authority alone makes not eligible: it ends
REJECTED_LOCAL, no outstation's health or statistics change, and R25 chooses among the orders that then stand (R26; the
order of the slots, and that a choice forced to a scan hands none back, are log entry 16). -/
def Obligations.ArbitrationTakesTheBestOrder : Prop :=
  ∀ (s : State) (line : Nat),
    (∀ k st, s.eligible line k = some st ↔ ∃ o v r, s.slot k = some o ∧ o.stage = .waiting
        ∧ s.ms.valves.get o.valve = some v ∧ v.station = some st ∧ s.ms.stations.get st = some r ∧ r.line = line
        ∧ (s.station st).health ≠ .lost ∧ s.crl.mode = .supervise ∧ s.crl.pendingConfigure = false ∧ s.vou.hold = false
        ∧ (o.action = .recall ∨ o.action = .releaseLocal
          ∨ ∃ x, s.vou.valves.get o.valve = some x ∧ x.authority = some .remote))
    ∧ (s.bestOrder line = none ↔ ∀ k, k < 12 → s.eligible line k = none)
    ∧ (∀ k st, s.bestOrder line = some (k, st) → k < 12 ∧ s.eligible line k = some st
        ∧ ∀ j o p, j < 12 → (s.eligible line j).isSome = true → s.slot k = some o → s.slot j = some p →
          p.priority < o.priority
            ∨ p.priority = o.priority
              ∧ (s.tb.time.since p.waitingTime < s.tb.time.since o.waitingTime
                ∨ s.tb.time.since p.waitingTime = s.tb.time.since o.waitingTime ∧ k ≤ j))
    ∧ ((s.controller line).orderRun = 4 → s.chooseTransaction line = s.sendScan line)
    ∧ ((s.controller line).orderRun ≠ 4 → ∀ t : State, t = (List.range 12).foldl (fun x k => x.handBack line k) s →
        t.flc = s.flc ∧ t.ms = s.ms ∧ t.crl = s.crl ∧ t.tb.time = s.tb.time
        ∧ s.chooseTransaction line = match t.bestOrder line with
          | some b => t.sendOrder line b.2 b.1
          | none => t.sendScan line)
    ∧ ∀ k,
      let stands (o : Order) : Prop := s.slot k = some o ∧ o.stage = .waiting
        ∧ (∃ v st r, s.ms.valves.get o.valve = some v ∧ v.station = some st ∧ s.ms.stations.get st = some r
            ∧ r.line = line ∧ (s.station st).health ≠ .lost)
        ∧ s.crl.mode = .supervise ∧ s.crl.pendingConfigure = false ∧ s.vou.hold = false
      ((∀ o, ¬stands o) → s.handBack line k = s)
      ∧ ∀ o x, stands o → s.vou.valves.get o.valve = some x →
        (o.action = .recall ∨ o.action = .releaseLocal ∨ x.authority = some .remote → s.handBack line k = s)
        ∧ (o.action = .close ∨ o.action = .opening → x.authority = some .crew ∨ x.authority = some .recallPending →
          s.handBack line k = s.endOrder k .rejectedLocal
          ∧ (o.origin = .host → s.vou.waiting = [] → s.handBack line k
              = ((((s.stopChannel (48 + k)).setValveSlot o.valve none).post .operations (.orderOutcome (some k) o.valve
                  o.action .host .rejectedLocal o.attempts)).setSlot k none)))

/-- A VALVE ORDER is sent on a field line only while the mode is SUPERVISE, no change to CONFIGURE is pending and the
order hold is clear, to an outstation that is not LOST, an OPEN or CLOSE only for a valve whose authority is REMOTE at
that moment, and its slot then stands in SENT: so for every step that starts an order transaction (R25, R80, R196). -/
def Obligations.OrdersAreSentUnderSuperviseOnly : Prop :=
  ∀ (s t : State) (line st k : Nat), line < 4 → step s = .next t →
    (t.controller line).state = .inTransaction (.order st k) → t.controller line ≠ s.controller line →
      t.crl.mode = .supervise ∧ t.crl.pendingConfigure = false ∧ t.vou.hold = false
        ∧ (t.station st).health ≠ .lost ∧ ∃ o, t.slot k = some o ∧ o.stage = .sent
        ∧ (o.action = .close ∨ o.action = .opening →
            ∃ x, t.vou.valves.get o.valve = some x ∧ x.authority = some .remote)

/-- Every step keeps the health counters, the good runs and the statistics in their ranges, a HEALTHY outstation's
counter below 64, the cycle counts below 8 and the order runs at most 4 (R19, R25, R28 to R31, R35). -/
def Obligations.LinesStaySound : Prop := ∀ s t : State, s.flc.Sound → step s = .next t → t.flc.Sound

/-- What a controller makes of the bytes of a reply window: the frame of the expected kind from the addressed
outstation is read back, whatever follows it; another address, kind, length, channel, answer or CRC is bad, and so is a
length field above 24 at once; the beginning of a frame judges nothing (R21 to R24). -/
def Obligations.FieldFramesAreJudged : Prop :=
  ∀ (address : Nat) (later : List Byte), address < 256 →
    (∀ body : List Byte, body.length = 24 →
      judgeField address .report (fieldFrame address 0x81#8 body ++ later) = .report (.ofBody body)
        ∧ ∀ ch, ch < 8 →
          (Report.ofBody body).counts[ch]? = some (256 * (body.getD (2 * ch) 0).toNat + (body.getD (2 * ch + 1) 0).toNat)
            ∧ (Report.ofBody body).valves[ch]? = some ⟨(body.getD (16 + ch) 0).getLsbD 0,
                (body.getD (16 + ch) 0).getLsbD 1, (body.getD (16 + ch) 0).getLsbD 2⟩)
    ∧ (∀ channel sent a : Nat, channel < 256 → a < 256 →
      judgeField address (.answer sent) (fieldFrame address 0x82#8 [.ofNat 8 channel, .ofNat 8 a] ++ later)
        = if channel ≠ sent then .bad
          else if a = 1 then .answer .accept
          else if a = 2 then .answer .rejectLocal
          else if a = 3 then .answer .rejectFault
          else if a = 4 then .answer .busy
          else .bad)
    ∧ (∀ (e : Expected) (kind x y : Byte) (other : Nat) (body : List Byte), other < 256 → body.length ≤ 24 →
      (other ≠ address → judgeField address e (fieldFrame other kind body ++ later) = .bad)
      ∧ (numberOf [x, y] ≠ (crc16 (.ofNat 8 other :: kind :: .ofNat 8 body.length :: body)).toNat →
        judgeField address e (.ofNat 8 other :: kind :: .ofNat 8 body.length :: body ++ x :: y :: later) = .bad)
      ∧ (kind ≠ 0x81#8 → judgeField address .report (fieldFrame other kind body ++ later) = .bad)
      ∧ (kind ≠ 0x82#8 → ∀ sent, judgeField address (.answer sent) (fieldFrame other kind body ++ later) = .bad)
      ∧ (body.length ≠ 24 → judgeField address .report (fieldFrame other kind body ++ later) = .bad)
      ∧ (body.length ≠ 2 → ∀ sent, judgeField address (.answer sent) (fieldFrame other kind body ++ later) = .bad)
      ∧ (∀ n, n < (fieldFrame other kind body).length →
        judgeField address e ((fieldFrame other kind body).take n) = .incomplete))
    ∧ ∀ (e : Expected) (a kind size : Byte), 24 < size.toNat → judgeField address e (a :: kind :: size :: later) = .bad

/-! ## Pressure supervision (chapter 3) -/

/-- Stages 1 to 4 of a sample: the five bands, the conversion, the filter and the rate; the conversion stays within
0..1,048,575, the filtered value never passes the pressure and comes to it under a run of equal samples, and the rate
stays within its clamp (R41, R43 to R45). -/
def Obligations.SampleMeasures : Prop :=
  (∀ r : Nat,
    (r ≤ 10376 → bandOf r = .error .underRange) ∧ (10377 ≤ r → r ≤ 10922 → bandOf r = .ok 10923)
      ∧ (10923 ≤ r → r ≤ 54613 → bandOf r = .ok r) ∧ (54614 ≤ r → r ≤ 55978 → bandOf r = .ok 54613)
      ∧ (55979 ≤ r → bandOf r = .error .overRange))
  ∧ (∀ (rec : PointRec) (rc : Nat), 10923 ≤ rc → rc ≤ 54613 →
      convert rec rc ≤ 1048575
        ∧ ∀ p : Int, p = (rc - 10923 : Int) * rec.fullScale / 43690 + rec.zeroOffset →
          (p < 0 → convert rec rc = 0) ∧ (1048575 < p → convert rec rc = 1048575)
            ∧ (0 ≤ p → p ≤ 1048575 → (convert rec rc : Int) = p))
  ∧ (∀ shift f p : Nat,
      min f p ≤ filterValue shift f p ∧ filterValue shift f p ≤ max f p
        ∧ (f ≠ p → filterValue shift f p ≠ f)
        ∧ (∀ n, max f p - min f p ≤ n → Nat.repeat (fun g => filterValue shift g p) n f = p)
        ∧ filterValue 0 f p = p
        ∧ (f ≤ p → 2 ^ shift ≤ p - f → filterValue shift f p = f + (p - f) / 2 ^ shift)
        ∧ (p ≤ f → 2 ^ shift ≤ f - p → filterValue shift f p = f - (f - p) / 2 ^ shift)
        ∧ (shift ≠ 0 → f < p → p - f < 2 ^ shift → filterValue shift f p = f + 1)
        ∧ (shift ≠ 0 → p < f → f - p < 2 ^ shift → filterValue shift f p = f - 1))
  ∧ ∀ (old : Option Int) (f before dt : Nat),
      (dt = 0 → rateOf old f before dt = old) ∧ (600 < dt → rateOf old f before dt = none)
        ∧ (0 < dt → dt ≤ 600 → before ≤ f → rateOf old f before dt = some (min ((f - before) * 600 / dt) 8388607 : Nat))
        ∧ (0 < dt → dt ≤ 600 → f ≤ before →
            rateOf old f before dt = some (-(min ((before - f) * 600 / dt) 8388607 : Nat) : Int))

/-- Stages 5 and 6: the candidate zone of a filtered value, with the hysteresis on the side of the current zone, under
the gaps of R7; and its persistence, judged by the deadline at the sample (R46, R48). -/
def Obligations.ZonesWaitTheirPersistence : Prop :=
  (∀ (rec : PointRec) (current : Zone) (f : Nat),
    rec.lowAlarm + rec.hysteresis < rec.lowWarn → rec.lowWarn + 2 * rec.hysteresis < rec.highWarn →
    rec.highWarn + rec.hysteresis < rec.highAlarm →
      let c := candidateZone rec current f
      (f < rec.lowAlarm → c = .lowAlarm)
        ∧ (rec.lowAlarm ≤ f → f < rec.lowAlarm + rec.hysteresis →
            c = if current = .lowAlarm then .lowAlarm else .lowWarn)
        ∧ (rec.lowAlarm + rec.hysteresis ≤ f → f < rec.lowWarn → c = .lowWarn)
        ∧ (rec.lowWarn ≤ f → f < rec.lowWarn + rec.hysteresis →
            c = if current = .lowAlarm ∨ current = .lowWarn then .lowWarn else .normal)
        ∧ (rec.lowWarn + rec.hysteresis ≤ f → f + rec.hysteresis ≤ rec.highWarn → c = .normal)
        ∧ (rec.highWarn < f + rec.hysteresis → f ≤ rec.highWarn →
            c = if current = .highWarn ∨ current = .highAlarm then .highWarn else .normal)
        ∧ (rec.highWarn < f → f + rec.hysteresis ≤ rec.highAlarm → c = .highWarn)
        ∧ (rec.highAlarm < f + rec.hysteresis → f ≤ rec.highAlarm →
            c = if current = .highAlarm then .highAlarm else .highWarn)
        ∧ (rec.highAlarm < f → c = .highAlarm))
  ∧ ∀ (rec : PointRec) (t : Time) (current candidate : Zone) (pending : Option (Zone × Time)),
      (candidate = current → persist rec t current candidate pending = (current, none))
        ∧ (candidate ≠ current →
            ∀ deadline : Time, (pending = some (candidate, deadline)
              ∨ (∀ d, pending ≠ some (candidate, d))
                ∧ deadline = t + .ofNat 32
                    (if current.severity < candidate.severity then rec.persistEnter else rec.persistClear)) →
              persist rec t current candidate pending
                = if (t - deadline).toNat < 2147483648 then (candidate, none) else (current, some (candidate, deadline)))
        ∧ Zone.normal.severity = 0 ∧ Zone.lowWarn.severity = 1 ∧ Zone.highWarn.severity = 1
        ∧ Zone.lowAlarm.severity = 2 ∧ Zone.highAlarm.severity = 2

/-- A sample writes the record of its own point and no other's, and changes no segment's condition: out of range, the
point goes to FAULT; in range it is seeded or filtered, its zone is judged, and its fall count and latch are updated.
The candidate is judged against the zone held, NORMAL where the point comes from AWAITING or holds none; a sample that
seeds the point decides the bands with NORMAL, whatever zone it held (R41, R42, R44 to R48, R50). -/
def Obligations.SampleUpdatesItsPoint : Prop :=
  ∀ (s : State) (t : Time) (p raw : Nat) (rec : PointRec) (x : PointLive),
    s.ms.points.get p = some rec → 1 ≤ rec.fallCount → s.pe.points.get p = some x →
      (∀ q, q ≠ p → (s.sample t p raw).pe.points.get q = s.pe.points.get q)
        ∧ (s.sample t p raw).pe.conditions = s.pe.conditions
        ∧ ∃ y, (s.sample t p raw).pe.points.get p = some y ∧ y.lastSample = some t
          ∧ (∀ sub, bandOf raw = .error sub → y.state = .fault sub ∧ y.filtered = x.filtered ∧ y.rate = x.rate
              ∧ y.zone = x.zone ∧ y.fallLatch = x.fallLatch
              ∧ ((∀ old, x.state ≠ .fault old) → y.pendingZone = none ∧ y.fallCount = 0)
              ∧ (∀ old, x.state = .fault old → y.pendingZone = x.pendingZone ∧ y.fallCount = x.fallCount))
          ∧ ∀ rc, bandOf raw = .ok rc → y.state = .valid
              ∧ (∀ current bands : Zone,
                  current = (if x.state = .awaiting then .normal else x.zone.getD .normal) →
                  bands = (if x.state = .valid then current else .normal) →
                  ∃ f, y.filtered = some f
                    ∧ y.zone = some (persist rec t current (candidateZone rec bands f) x.pendingZone).1
                    ∧ y.pendingZone = (persist rec t current (candidateZone rec bands f) x.pendingZone).2)
              ∧ (x.state ≠ .valid → y.filtered = some (convert rec rc) ∧ y.rate = none ∧ y.fallCount = 0
                  ∧ y.fallLatch = x.fallLatch)
              ∧ (∀ f last, x.state = .valid → x.filtered = some f → x.lastSample = some last →
                  y.filtered = some (filterValue rec.filterShift f (convert rec rc))
                    ∧ y.rate = rateOf x.rate (filterValue rec.filterShift f (convert rec rc)) f (t - last).toNat)
              ∧ (x.state = .valid → x.filtered ≠ none →
                  (y.fallCount = if 0 < rec.fallRate ∧ (∃ r, y.rate = some r ∧ r ≤ -(rec.fallRate : Int)) then
                      min (x.fallCount + 1) 8 else 0)
                    ∧ (y.fallLatch = true ↔ (x.fallLatch = true ∨ rec.fallCount ≤ y.fallCount)
                        ∧ ¬∃ r, y.rate = some r ∧ -((rec.fallRate / 2 : Nat) : Int) < r))

/-- The pressure condition of a segment from the valid points of its point list: NO_DATA, LOW, DEPRESSED or NORMAL by
how many of them are in LOW_ALARM (R54). -/
def Obligations.ConditionCountsTheAlarms : Prop :=
  ∀ (s : State) (seg : Nat),
    let valid (p : Nat) (z : Option Zone) : Prop :=
      p ∈ s.ms.pointsOf seg ∧ ∃ x, s.pe.points.get p = some x ∧ x.state = .valid ∧ x.zone = z
    let c := conditionOf (s.validZones seg)
    (c = .noData ↔ ¬∃ p z, valid p z)
      ∧ (c = .low ↔ (∃ p z, valid p z) ∧ ∀ p z, valid p z → z = some .lowAlarm)
      ∧ (c = .depressed ↔ (∃ p, valid p (some .lowAlarm)) ∧ ∃ p z, valid p z ∧ z ≠ some .lowAlarm)
      ∧ (c = .normal ↔ (∃ p z, valid p z) ∧ ∀ p, ¬valid p (some .lowAlarm))
      ∧ (s.pe.conditions.wf 384 → seg < 384 → (s.pe.conditions.get seg).isSome = true →
          (s.deriveCondition seg).pe.conditions.get seg = some c
            ∧ ∀ other, other ≠ seg → (s.deriveCondition seg).pe.conditions.get other = s.pe.conditions.get other)

/-! ## Valves, authority and orders (chapter 4) -/

/-- ORDER, RECALL and RELEASE_LOCAL: the checks in their order, the first that fails giving the reply; DONE_ALREADY for
an ORDER whose target is reached; otherwise the lowest free slot enters WAITING with the request's fields (R68 to R70).
A one-shot byte above 1 is refused with RANGE (DEDUCED, log entry 10). -/
def Obligations.HostOrdersAreCheckedInOrder : Prop :=
  (∀ (s s₀ : State) (kind tag : Byte) (v priority oneShot : Nat) (action : Action) (c : Instr) (body : List Byte),
    v < 65536 → priority < 256 → oneShot < 256 →
    (kind = 0x40#8 ∧ action = .close ∧ body = joinFields [2, 1, 1, 1] [v, 1, priority, oneShot] ∧ c = .order tag body
      ∨ kind = 0x40#8 ∧ action = .opening ∧ body = joinFields [2, 1, 1, 1] [v, 2, priority, oneShot] ∧ c = .order tag body
      ∨ kind = 0x41#8 ∧ action = .recall ∧ body = joinFields [2, 1, 1] [v, priority, oneShot] ∧ c = .recall tag body
      ∨ kind = 0x42#8 ∧ action = .releaseLocal ∧ body = joinFields [2, 1, 1] [v, priority, oneShot]
        ∧ c = .releaseLocal tag body) →
    s.Takes ⟨kind, tag, body⟩ s₀ →
      exec c s = .next
        (if s₀.crl.mode ≠ .supervise ∨ s₀.crl.pendingConfigure = true then s₀.answered kind tag .mode .empty
        else if s₀.vou.hold = true then s₀.answered kind tag .hold .empty
        else if 512 ≤ v ∨ 3 < priority ∨ 1 < oneShot then s₀.answered kind tag .range .empty
        else match s₀.ms.valves.get v, s₀.vou.valves.get v with
          | some rec, some x =>
            if rec.actuation ≠ .remote then s₀.answered kind tag .state .empty
            else if (action = .close ∨ action = .opening) ∧ x.inhibit = true then
              s₀.answered kind tag .inhibited .empty
            else if x.slot ≠ none ∨ v ∈ s₀.vou.waiting.map (·.valve) then s₀.answered kind tag .state .empty
            else if x.authority ≠ some (if action = .recall then .crew else .remote) then
              s₀.answered kind tag .authority .empty
            else if rec.station.map (fun st => (s₀.station st).health) = some .lost then
              s₀.answered kind tag .link .empty
            else if action = .close ∧ x.position = .closed ∨ action = .opening ∧ x.position = .opened then
              (s₀.post .operations (.orderOutcome none v action .host .doneAlready 0)).answered kind tag .ok .doneAlready
            else match (List.range 12).find? (fun k => (s₀.slot k).isNone) with
              | none => s₀.answered kind tag .full .empty
              | some k =>
                (s₀.withVou { s₀.vou with
                  slots := s₀.vou.slots.setIfInBounds k (some {
                    stage := .waiting, valve := v, action := action, priority := priority, origin := .host, oneShot := oneShot == 1,
                    attempts := 0, abortRequested := false, waitingTime := s₀.tb.time }),
                  valves := s₀.vou.valves.modify v (fun x => { x with slot := some k }) }).answered
                    kind tag .accepted (.slot k)
          | _, _ => s₀.answered kind tag .notFound .empty))
  ∧ ∀ (s s₀ : State) (tag : Byte) (v a priority oneShot : Nat) (body : List Byte),
    v < 65536 → a < 256 → priority < 256 → oneShot < 256 → a ≠ 1 → a ≠ 2 →
    body = joinFields [2, 1, 1, 1] [v, a, priority, oneShot] → s.Takes ⟨0x40#8, tag, body⟩ s₀ →
      exec (.order tag body) s = .next
        (if s₀.crl.mode ≠ .supervise ∨ s₀.crl.pendingConfigure = true then s₀.answered 0x40#8 tag .mode .empty
        else if s₀.vou.hold = true then s₀.answered 0x40#8 tag .hold .empty
        else s₀.answered 0x40#8 tag .range .empty)

/-- The end of an order transaction, by the first condition that holds: LINK_LOST, then an abort asked for, then the
answer: an ACCEPT starts the travel or the recall, or ends the order DONE at once; a REJECT ends it; a BUSY or a no
reply counts an attempt and ends the order or returns it to WAITING with its WAITING time kept (R72 to R74, R76,
R77). -/
def Obligations.OrderTransactionIsJudged : Prop :=
  ∀ (s : State) (k : Nat) (o : Order) (r : TransactionResult) (health : Health), k < 12 → s.slot k = some o →
    (health = .lost → s.judgeTransaction k r health = s.endOrder k .linkLost)
    ∧ (health ≠ .lost → o.abortRequested = true →
        s.judgeTransaction k r health = s.endOrder k (if r = .accept then .abortedLate else .aborted))
    ∧ (health ≠ .lost → o.abortRequested = false → r = .busy ∨ r = .noReply →
        ∀ n, n = min (o.attempts + 1) 7 →
          (o.oneShot = true → s.judgeTransaction k r health
            = (s.setSlot k (some { o with attempts := n })).endOrder k (if r = .busy then .failedBusy else .noReply))
          ∧ (o.oneShot = false → r = .noReply → s.retryLimitOf o.valve ≤ n → s.judgeTransaction k r health
            = (s.setSlot k (some { o with attempts := n })).endOrder k .noReply)
          ∧ (o.oneShot = false → (r = .noReply → n < s.retryLimitOf o.valve) →
              (s.crl.mode ≠ .supervise ∨ s.crl.pendingConfigure = true → s.judgeTransaction k r health
                = (s.setSlot k (some { o with attempts := n })).endOrder k .abortedMode)
              ∧ (s.crl.mode = .supervise → s.crl.pendingConfigure = false → s.judgeTransaction k r health
                = s.setSlot k (some { o with attempts := n, stage := .waiting }))))
    ∧ (health ≠ .lost → o.abortRequested = false → ∀ x, s.vou.valves.get o.valve = some x →
        (r = .rejectLocal → s.judgeTransaction k r health
          = (if x.authority = some .crew then s else s.changeAuthority o.valve .rejectLocal .crew).endOrder k .rejectedLocal)
        ∧ (r = .rejectFault → s.judgeTransaction k r health
          = (s.changeValve o.valve .orderAnswer fun y => { y with limitFault := true }).endOrder k .rejectedFault))
    ∧ (health ≠ .lost → o.abortRequested = false → r = .accept → ∀ rec x, s.ms.valves.get o.valve = some rec →
        s.vou.valves.get o.valve = some x → (s.channel (48 + k)).running = false →
          (o.action = .close → s.judgeTransaction k r health
            = if x.position = .closed then s.endDone k else (s.setSlot k (some { o with stage := .moving })).startChannel
                (48 + k) rec.travelTime .single (health != .degraded))
          ∧ (o.action = .opening → s.judgeTransaction k r health
            = if x.position = .opened then s.endDone k else (s.setSlot k (some { o with stage := .moving })).startChannel
                (48 + k) rec.travelTime .single (health != .degraded))
          ∧ (o.action = .releaseLocal → s.judgeTransaction k r health
            = if x.authority = some .crew then s.endDone k else (s.setSlot k (some { o with stage := .moving })).startChannel
                (48 + k) rec.recallTime .single (health != .degraded))
          ∧ (o.action = .recall → x.authority = some .remote → s.judgeTransaction k r health = s.endDone k)
          ∧ (o.action = .recall → x.authority ≠ some .remote → ∃ t : State, s.judgeTransaction k r health = t
              ∧ t.slot k = some { o with stage := .moving }
              ∧ t.channel (48 + k) = .loaded rec.recallTime .single (health != .degraded)
              ∧ t.vou.valves.get o.valve = some { x with authority := some .recallPending }))

/-- ABORT: refused in CONFIGURE, for an index above 11 and for a FREE slot; a SENT order is marked; a WAITING or MOVING
order ends ABORTED or ABORTED_MOVING: of a host's order the channel stops, its valve and slot are free, and
ORDER_OUTCOME is posted. The end of the last MOVING order lets a pending change to CONFIGURE take effect (R78, R79,
R198). -/
def Obligations.AbortEndsOrMarksTheOrder : Prop :=
  ∀ (s s₀ : State) (tag : Byte) (k : Nat), k < 256 → s.Takes ⟨0x43#8, tag, joinFields [1] [k]⟩ s₀ →
    (s₀.crl.pendingConfigure = true → s₀.crl.mode ≠ .configure ∧ ∃ j, j < 12 ∧ s₀.busySlot j = true) →
    (s₀.crl.mode = .configure → exec (.abort tag (joinFields [1] [k])) s = .next (s₀.answered 0x43#8 tag .mode .empty))
    ∧ (s₀.crl.mode ≠ .configure → 12 ≤ k →
        exec (.abort tag (joinFields [1] [k])) s = .next (s₀.answered 0x43#8 tag .range .empty))
    ∧ (s₀.crl.mode ≠ .configure → k < 12 →
        (s₀.slot k = none → exec (.abort tag (joinFields [1] [k])) s = .next (s₀.answered 0x43#8 tag .state .empty))
        ∧ ∀ o, s₀.slot k = some o →
          (o.stage = .sent → exec (.abort tag (joinFields [1] [k])) s
            = .next ((s₀.setSlot k (some { o with abortRequested := true })).answered 0x43#8 tag .accepted .empty))
          ∧ (o.stage ≠ .sent → exec (.abort tag (joinFields [1] [k])) s
            = .next ((s₀.endOrder k (if o.stage = .waiting then .aborted else .abortedMoving)).settleConfigure.answered
                0x43#8 tag .ok .empty))
          ∧ (o.stage ≠ .sent → o.origin = .host → o.action ≠ .recall → s₀.vou.waiting = [] →
            (s₀.crl.pendingConfigure = true → ∃ j, j < 12 ∧ j ≠ k ∧ s₀.busySlot j = true) →
            exec (.abort tag (joinFields [1] [k])) s
              = .next ((((((s₀.stopChannel (48 + k)).setValveSlot o.valve none).post .operations
                  (.orderOutcome (some k) o.valve o.action .host
                    (if o.stage = .waiting then .aborted else .abortedMoving) o.attempts)).setSlot k none)).answered
                      0x43#8 tag .ok .empty))
          ∧ (o.stage = .moving → o.origin = .host → s₀.vou.waiting = [] → s₀.crl.pendingConfigure = true →
            (∀ j, j < 12 → j ≠ k → s₀.busySlot j = false) →
            ∃ t : State, exec (.abort tag (joinFields [1] [k])) s = .next (t.answered 0x43#8 tag .ok .empty)
              ∧ t.crl.mode = .configure ∧ t.crl.pendingConfigure = false ∧ ∀ j, t.slot j = none))

/-- HOLD in the service modes sets the hold and empties the waiting list; each entry, oldest first, ends ABORTED_HOLD:
ORDER_OUTCOME is posted with the slot absent, and its context is told. Then every WAITING order, in ascending slot, ends
ABORTED_HOLD by the steps of R78, ORDER_OUTCOME among them, and no freed slot finds an entry to take it. Every SENT order
is marked for abort, and the MOVING orders are left as they are (R78, R80). -/
def Obligations.HoldStopsTheOrders : Prop :=
  ∀ (s s₀ : State) (tag : Byte), s.Takes ⟨0x44#8, tag, []⟩ s₀ →
    (s₀.crl.mode = .configure → exec (.hold tag []) s = .next (s₀.answered 0x44#8 tag .mode .empty))
    ∧ (s₀.crl.mode ≠ .configure →
      ∃ a b t : State, exec (.hold tag []) s = .next (t.answered 0x44#8 tag .ok .empty)
        ∧ a = s₀.vou.waiting.foldl (fun u e => u.endedUnslotted e .abortedHold)
            (s₀.withVou { s₀.vou with hold := true, waiting := [] })
        ∧ b = (List.range 12).foldl (fun u k =>
            match s₀.slot k with
            | none => u
            | some o => if o.stage = .waiting then u.ended k o .abortedHold else u) a
        ∧ t = (List.range 12).foldl (fun u k =>
            u.setSlot k ((u.slot k).map fun o => if o.stage = .sent then { o with abortRequested := true } else o)) b
        ∧ t.vou.hold = true ∧ t.vou.waiting = []
        ∧ (∀ k, k < 12 → t.slot k = (s₀.slot k).bind fun o =>
            match o.stage with
            | .waiting => none
            | .sent => some { o with abortRequested := true }
            | .moving => some o)
        ∧ t.crl = s₀.crl ∧ t.ms = s₀.ms ∧ t.flc = s₀.flc ∧ t.pe = s₀.pe ∧ t.tb.time = s₀.tb.time
        ∧ t.pending = s₀.pending)

/-- RELEASE_HOLD in SUPERVISE, in OBSERVE and in a pending change to CONFIGURE clears the order hold, changes nothing
else and is answered OK, whether or not the hold was set; in CONFIGURE it is refused with MODE (R81). -/
def Obligations.ReleaseHoldClearsTheHold : Prop :=
  ∀ (s s₀ : State) (tag : Byte), s.Takes ⟨0x45#8, tag, []⟩ s₀ →
    (s₀.crl.mode ≠ .configure → exec (.releaseHold tag []) s
      = .next ((s₀.withVou { s₀.vou with hold := false }).answered 0x45#8 tag .ok .empty))
    ∧ (s₀.crl.mode = .configure → exec (.releaseHold tag []) s = .next (s₀.answered 0x45#8 tag .mode .empty))

/-- An expiry of an order slot's channel, of an order in MOVING: an OPEN or CLOSE ends TRAVEL_TIMEOUT and sets the
valve's travel fault; a RECALL or RELEASE_LOCAL ends RECALL_UNANSWERED, and RECALL_PENDING returns to LOCAL. Of a
host's order, with no entry waiting for the slot, the slot and the valve are free (R75 to R78). An expiry that is not
due changes nothing, and one of a slot in another state nothing but the list of those due (DESIGN CHOICE,
log entry 5). -/
def Obligations.OrderChannelRunsOut : Prop :=
  ∀ (s : State) (k : Fin 12),
    (48 + k.val ∉ s.tb.due → exec (.orderChannelExpiry k) s = .next s)
    ∧ (s.crl.held = false → s.crl.pendingConfigure = false → 48 + k.val ∈ s.tb.due →
        let s' := s.withTb { s.tb with due := s.tb.due.erase (48 + k.val) }
        ((∀ o, s.slot k = some o → o.stage ≠ .moving) → exec (.orderChannelExpiry k) s = .next s')
        ∧ ∀ o : Order, s.slot k = some o → o.stage = .moving →
          (o.action = .close ∨ o.action = .opening → exec (.orderChannelExpiry k) s
            = .next ((s'.changeValve o.valve .travelTimeout fun y => { y with travelFault := true }).endOrder k
                .travelTimeout))
          ∧ (o.action = .recall ∨ o.action = .releaseLocal →
            exec (.orderChannelExpiry k) s = .next (s'.endOrder k .recallUnanswered)))
    ∧ ∀ (o : Order) (x : ValveLive), s.crl.held = false → s.crl.pendingConfigure = false → 48 + k.val ∈ s.tb.due →
        s.slot k = some o → o.stage = .moving → o.origin = .host → s.vou.waiting = [] →
        s.vou.valves.get o.valve = some x →
        ∃ t : State, exec (.orderChannelExpiry k) s = .next t
          ∧ t.slot k = none ∧ (∀ j, j < 12 → j ≠ k.val → t.slot j = s.slot j) ∧ t.vou.waiting = []
          ∧ (o.action = .close ∨ o.action = .opening →
              t.vou.valves.get o.valve = some { x with travelFault := true, slot := none })
          ∧ (o.action = .recall → t.vou.valves.get o.valve = some { x with
              authority := if x.authority = some .recallPending then some .crew else x.authority, slot := none })
          ∧ (o.action = .releaseLocal → t.vou.valves.get o.valve = some { x with slot := none })
          ∧ (∀ v, v ≠ o.valve → t.vou.valves.get v = s.vou.valves.get v)
          ∧ (t.channel (48 + k)).running = false
          ∧ t.crl = s.crl ∧ t.ms = s.ms ∧ t.flc = s.flc ∧ t.pe = s.pe ∧ t.tb.time = s.tb.time ∧ t.pending = s.pending

/-- VALVE_ENTRY and INHIBIT in the service modes: the refusals; the entered position of a MANUAL valve, which is its
last settled position too; the inhibit flag as asked and the travel fault cleared where asked, the limit fault left;
the reply carries the flags (R63, R65), which are inhibit, limit fault and travel fault in that order (DESIGN CHOICE, log
entry 28). A flag byte of INHIBIT above 1 is refused with RANGE (DEDUCED, log entry 10). -/
def Obligations.EntriesAndFlagsAreTaken : Prop :=
  ∀ (s s₀ : State) (tag : Byte) (v a b : Nat), v < 65536 → a < 256 → b < 256 →
    (s.Takes ⟨0x46#8, tag, joinFields [2, 1] [v, a]⟩ s₀ →
      (s₀.crl.mode = .configure →
        exec (.valveEntry tag (joinFields [2, 1] [v, a])) s = .next (s₀.answered 0x46#8 tag .mode .empty))
      ∧ (s₀.crl.mode ≠ .configure →
        (512 ≤ v ∨ a = 0 ∨ 2 < a →
          exec (.valveEntry tag (joinFields [2, 1] [v, a])) s = .next (s₀.answered 0x46#8 tag .range .empty))
        ∧ (v < 512 → ∀ p : Settled, (a = 1 ∧ p = .opened ∨ a = 2 ∧ p = .closed) →
          (s₀.ms.valves.get v = none →
            exec (.valveEntry tag (joinFields [2, 1] [v, a])) s = .next (s₀.answered 0x46#8 tag .notFound .empty))
          ∧ ∀ rec, s₀.ms.valves.get v = some rec →
            (rec.actuation ≠ .manual →
              exec (.valveEntry tag (joinFields [2, 1] [v, a])) s = .next (s₀.answered 0x46#8 tag .state .empty))
            ∧ (rec.actuation = .manual → ∀ x, s₀.vou.valves.get v = some x →
              ∃ t : State, exec (.valveEntry tag (joinFields [2, 1] [v, a])) s
                  = .next (t.answered 0x46#8 tag .ok .empty)
                ∧ t.vou.valves.get v = some { x with position := p.position, settled := p }
                ∧ t.crl = s₀.crl ∧ t.ms = s₀.ms ∧ t.flc = s₀.flc ∧ t.pe = s₀.pe ∧ t.tb.time = s₀.tb.time
                ∧ t.pending = s₀.pending))))
    ∧ (s.Takes ⟨0x47#8, tag, joinFields [2, 1, 1] [v, a, b]⟩ s₀ →
      (s₀.crl.mode = .configure →
        exec (.inhibit tag (joinFields [2, 1, 1] [v, a, b])) s = .next (s₀.answered 0x47#8 tag .mode .empty))
      ∧ (s₀.crl.mode ≠ .configure →
        (512 ≤ v ∨ 1 < a ∨ 1 < b →
          exec (.inhibit tag (joinFields [2, 1, 1] [v, a, b])) s = .next (s₀.answered 0x47#8 tag .range .empty))
        ∧ (v < 512 → a ≤ 1 → b ≤ 1 → s₀.vou.valves.get v = none →
          exec (.inhibit tag (joinFields [2, 1, 1] [v, a, b])) s = .next (s₀.answered 0x47#8 tag .notFound .empty))
        ∧ (v < 512 → a ≤ 1 → b ≤ 1 → ∀ x, s₀.vou.valves.get v = some x →
          ∃ t : State, exec (.inhibit tag (joinFields [2, 1, 1] [v, a, b])) s
              = .next (t.answered 0x47#8 tag .ok (.flags (a == 1) x.limitFault (x.travelFault && b == 0)))
            ∧ t.vou.valves.get v = some { x with inhibit := a == 1, travelFault := x.travelFault && b == 0 }
            ∧ (∀ w, w ≠ v → t.vou.valves.get w = s₀.vou.valves.get w) ∧ t.vou.slots = s₀.vou.slots
            ∧ t.crl = s₀.crl ∧ t.ms = s₀.ms ∧ t.flc = s₀.flc ∧ t.pe = s₀.pe ∧ t.tb.time = s₀.tb.time
            ∧ t.pending = s₀.pending)))

/-- A reported entry: the limits give a REMOTE or MONITORED valve its position, last settled position and limit fault;
the local switch gives a REMOTE valve its authority and is ignored for a MONITORED one (R60, R61, R66). -/
def Obligations.LimitsGiveThePosition : Prop :=
  ∀ (s : State) (r : ValveReading) (rec : ValveRec) (x : ValveLive),
    s.ms.valves.get r.valve = some rec → s.vou.valves.get r.valve = some x → rec.actuation ≠ .manual →
      ∃ y, (s.deliverReading r).vou.valves.get r.valve = some y ∧ y.inhibit = x.inhibit
        ∧ (r.openLimit = true → r.closedLimit = false →
            y.position = .opened ∧ y.settled = .opened ∧ y.limitFault = false)
        ∧ (r.openLimit = false → r.closedLimit = true →
            y.position = .closed ∧ y.settled = .closed ∧ y.limitFault = false)
        ∧ (r.openLimit = false → r.closedLimit = false →
            y.position = .travel ∧ y.settled = x.settled ∧ y.limitFault = false)
        ∧ (r.openLimit = true → r.closedLimit = true →
            y.position = x.position ∧ y.settled = x.settled ∧ y.limitFault = true)
        ∧ (rec.actuation = .monitored → y.authority = x.authority)
        ∧ (rec.actuation = .remote → r.localSwitch = true →
            y.authority = if x.authority = some .remote then some .crew else x.authority)
        ∧ (rec.actuation = .remote → r.localSwitch = false →
            y.authority = if x.authority = none then none else some .remote)

/-! ## Supply traces and zone searches (chapter 5 and section 7.3) -/

/-- TRACE_COMPLETE: the fed flags become the smallest set closed under the valves the trace judged passing; a flag that
changed is delivered to the Outage Unit, in ascending segment; the engine goes on with the pending or rerun trace, with
the head of the search queue, or becomes IDLE. A command that finds no trace changes nothing (R90 to R93, R156; log
entry 3). What a fed, condition or member input does to a segment: in service it stays, DEPRESSED or IN_SERVICE as its
condition says, or goes OFF_SUPPLY with the cause of R157 and joins a record (R162 to R167; the oldest closed time is
log entry 19); off supply it goes to RESTORING and back, with a new cause, and keeps its record (R158). Each change of
state posts one SEGMENT_STATE (R159). -/
def Obligations.TraceCompletes : Prop :=
  (∀ s d : State, s.Finds d →
    ((∀ passing rerun, d.me.state ≠ .tracing passing rerun) → exec .traceComplete s = .next d)
    ∧ ∀ (passing : List Nat) (rerun : Bool), d.me.state = .tracing passing rerun →
      d.ms.segments.wf 384 → d.vou.valves.wf 512 →
        ∃ t : State, exec .traceComplete s = .next t
          ∧ (∀ g, d.ms.segments.get g = none → t.me.fed.get g = none)
          ∧ (∀ g, (d.ms.segments.get g).isSome = true → ∃ flag, t.me.fed.get g = some flag
              ∧ (flag = true ↔ ∀ fed : Nat → Prop, ClosedUnder (d.ms.valvesAmong passing) fed → fed g)
              ∧ ∀ x, d.ou.services.get g = some x → ∃ y, t.ou.services.get g = some y
                  ∧ y.fed = (if d.me.fed.get g = some flag then x.fed else flag)
                  ∧ y.condition = x.condition ∧ y.member = x.member)
          ∧ (d.me.pendingTrace = true ∨ rerun = true →
              t.me.state = .tracing d.passingValves false ∧ t.me.pendingTrace = false ∧ t.me.queue = d.me.queue)
          ∧ (d.me.pendingTrace = false → rerun = false → t.me.pendingTrace = false
              ∧ (∀ c rest, d.me.queue = c :: rest → t.me.state = .searching (d.newSearch c) ∧ t.me.queue = rest)
              ∧ (d.me.queue = [] → t.me.state = .idle ∧ t.me.queue = []))
          ∧ (∀ v, v ∈ d.passingValves ↔ ∃ x, d.vou.valves.get v = some x
              ∧ (x.position = .opened ∨ x.position = .travel ∨ x.position = .unknown ∧ x.settled = .opened))
          ∧ (∃ changed : List (Nat × Bool), changed.Pairwise (fun a b => a.1 < b.1)
              ∧ (∀ g flag, (g, flag) ∈ changed ↔ t.me.fed.get g = some flag ∧ d.me.fed.get g ≠ some flag)
              ∧ ∀ u : State, u = changed.foldl (fun x e => x.deliverFed e.1 e.2)
                    (d.withMe { d.me with fed := t.me.fed }) →
                  t.ou = u.ou ∧ t.nq = u.nq ∧ t.tb = u.tb)
          ∧ t.ms = d.ms ∧ t.flc = d.flc ∧ t.pe = d.pe ∧ t.vou = d.vou ∧ t.it = d.it ∧ t.iu = d.iu ∧ t.crl = d.crl
          ∧ t.tb.time = d.tb.time ∧ t.pending = d.pending)
  ∧ ∀ (s t : State) (g : Nat) (x y : Service) (rec : SegmentRec), s.OutagesSound → s.ou.services.wf 384 →
      s.ms.segments.get g = some rec → s.ou.services.get g = some x →
      ((∃ b, y = { x with fed := b } ∧ t = s.deliverFed g b)
        ∨ (∃ c, y = { x with condition := c } ∧ t = s.deliverCondition g c)
        ∨ ∃ m, y = { x with member := m } ∧ t = s.deliverMember g m) →
      ∀ cause : OutageCause, cause = (if y.fed then (if y.condition = .low then .lowPressure else .isolation)
          else if y.member = none then .unfed else .isolation) →
        (x.state = .inService ∨ x.state = .depressed →
          (y.fed = true → y.condition ≠ .low → ∀ new : ServiceState,
            new = (if y.condition = .depressed then .depressed else .inService) →
              (new = x.state → t = s.setService g y)
              ∧ (new ≠ x.state → x.cause = none → t = (s.setService g { y with state := new }).post .service
                  (.segmentState g x.state new none none y.fed y.condition y.member none)))
          ∧ (y.fed = false ∨ y.condition = .low → ∃ (n : Nat) (u : State), n < 16
              ∧ s.Joins u g n cause y.member rec.servicePoints rec.criticalConsumers
              ∧ u.ou.services.get g = some { y with state := .offSupply, cause := some cause, outage := some n }
              ∧ t = u.post .service (.segmentState g x.state .offSupply (some cause) (some n) y.fed y.condition y.member
                  (some (u.outage n).capacityMerged))))
        ∧ (∀ n, x.outage = some n →
          let keeps : Prop := y.fed = true ∧ y.member = none ∧ y.condition ≠ .low
          (x.state = .offSupply →
            (keeps → t = (s.setService g { y with state := .restoring }).post .service (.segmentState g .offSupply .restoring
                x.cause (some n) y.fed y.condition y.member (some (s.outage n).capacityMerged)))
            ∧ (¬keeps → t = s.setService g y))
          ∧ (x.state = .restoring →
            (keeps → t = s.setService g y)
            ∧ (¬keeps → t = ((s.setOutage n { s.outage n with segments := (s.outage n).segments.map fun e =>
                    if e.segment = g then { e with cause := cause } else e }).setService g
                  { y with state := .offSupply, cause := some cause }).post .service (.segmentState g .restoring .offSupply
                (some cause) (some n) y.fed y.condition y.member (some (s.outage n).capacityMerged)))))
        ∧ (∀ h z, h ≠ g → s.ou.services.get h = some z → ∃ n, t.ou.services.get h = some { z with outage := n })
        ∧ t.ms = s.ms ∧ t.flc = s.flc ∧ t.pe = s.pe ∧ t.vou = s.vou ∧ t.me = s.me ∧ t.it = s.it ∧ t.iu = s.iu
        ∧ t.crl = s.crl ∧ t.tb.time = s.tb.time ∧ t.tb.due = s.tb.due ∧ t.pending = s.pending

/-- SEARCH_STEP examines one valve: the next of the working zone's segments in their order and of each one's adjacent
valves in theirs; the first case of R131 that fits it, with the usability and the action of R129. Where no search is in
its ZONE phase, or nothing is left to examine, nothing changes (R95, R129, R131; log entry 3). -/
def Obligations.SearchExaminesOneValve : Prop :=
  ∀ s d : State, s.Finds d →
    ((∀ r, d.me.state ≠ .searching r) → exec .searchStep s = .next d)
    ∧ ∀ r : Search, d.me.state = .searching r →
      (r.phase ≠ .zone ∨ r.failure ≠ none ∨ d.nextExamined r = none → exec .searchStep s = .next d)
      ∧ ∀ (i j seg v : Nat),
        (d.nextExamined r = some (i, j, seg, v) ↔ r.zone[i]? = some seg ∧ (d.ms.adjacentOf seg)[j]? = some v
          ∧ (i = r.segmentAt ∧ j = r.valveAt
            ∨ r.segmentAt < i ∧ j = 0
              ∧ (∀ g, r.zone[r.segmentAt]? = some g → (d.ms.adjacentOf g).length ≤ r.valveAt)
              ∧ ∀ k g, r.segmentAt < k → k < i → r.zone[k]? = some g → d.ms.adjacentOf g = []))
        ∧ ∀ (rec : ValveRec) (x : ValveLive) (usable : Option CloseAction),
          r.phase = .zone → r.failure = none → d.nextExamined r = some (i, j, seg, v) →
          d.ms.valves.get v = some rec → d.vou.valves.get v = some x →
          (usable = none ↔ x.inhibit = true ∨ x.limitFault = true ∨ x.travelFault = true ∨ x.position = .unknown
            ∨ v ∈ r.barred
            ∨ r.remoteOnly = true ∧ x.position ≠ .closed ∧ ¬(rec.actuation = .remote ∧ x.authority = some .remote)) →
          (∀ a, usable = some a → a = if x.position = .closed then .noneClosed
            else if rec.actuation = .remote ∧ x.authority = some .remote then .remote else .crew) →
            let at' : Search := { r with segmentAt := i, valveAt := j + 1 }
            let join (a : CloseAction) : Search :=
              if v ∈ r.boundary.map (·.1) then at'
              else if 24 ≤ r.boundary.length then { at' with failure := some .tooLarge }
              else { at' with boundary := r.boundary ++ [(v, a)] }
            let grow (o : Nat) : Search :=
              if 32 ≤ r.zone.length then { at' with failure := some .tooLarge } else { at' with zone := r.zone ++ [o] }
            exec .searchStep s = .next (d.setEngine (.searching
              (match rec.otherSide seg, usable with
                | .source, some a => join a
                | .source, none => { at' with failure := some (.unboundedFeed v) }
                | .segment o, u =>
                  if o ∈ r.zone then
                    { at' with interior := if v ∈ r.interior then r.interior else r.interior ++ [v],
                               boundary := r.boundary.filter fun e => e.1 != v }
                  else match u, d.memberOf o with
                    | some a, _ => join a
                    | none, some n => if n = r.context then grow o else { at' with failure := some (.overlap n) }
                    | none, none => grow o)))

/-- SEARCH_ZONE_COMPLETE begins the collateral trace with every boundary valve judged blocking. SEARCH_COMPLETE puts an
overtaken search back at the head of the queue and delivers nothing; otherwise the result goes to its context, which
takes it only in SEARCHING and under the same search number: a failure, a zone that overlaps another context's, or the
plan, with the collateral list the two traces give and the sums over zone and collateral list (R90, R97 to R99, R132 to
R134). Where a search has not come to the end that the command names, nothing changes (DEDUCED, log entry 3). -/
def Obligations.SearchDeliversItsResult : Prop :=
  ∀ (s d : State) (r : Search), s.Finds d → d.me.state = .searching r →
    (r.phase = .zone → r.failure = none → d.nextExamined r = none →
      exec .searchZoneComplete s = .next (d.setEngine (.searching
          { r with phase := .collateral (d.passingValves.filter fun v => !(r.boundary.map (·.1)).contains v) }))
        ∧ exec .searchComplete s = .next d)
    ∧ (r.phase ≠ .zone ∨ r.failure ≠ none ∨ d.nextExamined r ≠ none → exec .searchZoneComplete s = .next d)
    ∧ (r.phase = .zone → r.failure = none → exec .searchComplete s = .next d)
    ∧ (r.phase ≠ .zone ∨ r.failure ≠ none → r.rerun = true →
      (d.me.pendingTrace = true → exec .searchComplete s = .next (d.withMe { d.me with
        state := .tracing d.passingValves false, pendingTrace := false, queue := r.context :: d.me.queue }))
      ∧ (d.me.pendingTrace = false →
        exec .searchComplete s = .next (d.setEngine (.searching (d.newSearch r.context)))))
    ∧ (r.phase ≠ .zone ∨ r.failure ≠ none → r.rerun = false → r.context < 8 → d.ms.segments.wf 384 →
      ∃ t : State, exec .searchComplete s = .next t
        ∧ (d.me.pendingTrace = true →
            t.me.state = .tracing d.passingValves false ∧ t.me.pendingTrace = false ∧ t.me.queue = d.me.queue)
        ∧ (d.me.pendingTrace = false → t.me.pendingTrace = false
            ∧ (∀ c rest, d.me.queue = c :: rest → t.me.state = .searching (t.newSearch c) ∧ t.me.queue = rest)
            ∧ (d.me.queue = [] → t.me.state = .idle ∧ t.me.queue = []))
        ∧ t.me.fed = d.me.fed ∧ t.ms = d.ms ∧ t.flc = d.flc ∧ t.pe = d.pe ∧ t.vou = d.vou ∧ t.it = d.it ∧ t.crl = d.crl
        ∧ t.tb.time = d.tb.time ∧ t.pending = d.pending
        ∧ (∀ c, c ≠ r.context → t.context c = d.context c)
        ∧ ∀ old, old = d.context r.context →
          (old.state ≠ .searching ∨ old.searchNumber ≠ r.number → t.iu = d.iu ∧ t.nq = d.nq ∧ t.ou = d.ou)
          ∧ (old.state = .searching → old.searchNumber = r.number →
            (∀ f, (r.failure = some f ∨ r.failure = none ∧ ∃ n, d.overlapWith r.context r.zone = some n ∧ f = .overlap n) →
              t.context r.context = { old with state := .failed, failure := some f, extensionSeeds := [] }
                ∧ t.nq = (d.post (if old.automatic then .safety else .operations)
                    (.planFailed (some r.context) old.incident (.search f))).nq
                ∧ t.ou = d.ou)
            ∧ (∀ passing, r.failure = none → r.phase = .collateral passing → d.overlapWith r.context r.zone = none →
              let sum (f : SegmentRec → Nat) (l : List Nat) : Nat := (l.map fun g => ((d.ms.segments.get g).map f).getD 0).sum
              ∃ collateral : List Nat,
                collateral.Pairwise (· < ·)
                ∧ (∀ g, g ∈ collateral ↔ (d.ms.segments.get g).isSome = true ∧ d.me.fed.get g = some true ∧ g ∉ r.zone
                    ∧ ∃ fed : Nat → Prop, ClosedUnder (d.ms.valvesAmong passing) fed ∧ ¬fed g)
                ∧ t.context r.context = { old with
                    state := .planned, zone := r.zone, collateral := collateral, extensionSeeds := [], failure := none,
                    revision := min (old.revision + 1) 65535,
                    sums := ⟨sum (·.servicePoints) r.zone, sum (·.criticalConsumers) r.zone,
                      sum (·.servicePoints) collateral, sum (·.criticalConsumers) collateral⟩,
                    boundary := r.boundary.map fun b => ⟨b.1, b.2,
                      if b.2 = .noneClosed then .closed
                      else if (d.contextOrder r.context b.1).isSome then .ordered else .openTodo,
                      ((old.boundary.find? fun e => e.valve == b.1).map (·.byContext)).getD false⟩,
                    interiorClosed := ((old.boundary.filter fun e =>
                      e.byContext && !(r.boundary.map (·.1)).contains e.valve).map (·.valve)).foldl appendNew
                        old.interiorClosed }
                ∧ ∀ g x, d.ou.services.get g = some x → ∃ y, t.ou.services.get g = some y ∧ y.fed = x.fed
                    ∧ y.condition = x.condition
                    ∧ y.member = if g ∈ r.zone ∧ g ∉ old.zone then some r.context else x.member)))

/-! ## Incidents (chapter 6) -/

/-- CALL: the refusals in their order; a NO_SUPPLY call on a segment off supply counts against its outage record;
another call attaches to the first incident of its class that matches it and has room, or opens one in the lowest free
slot under the next serial no open incident holds, linked to the oldest full match; with no free slot it is refused
with FULL (R102, R104 to R110, R115, R116). -/
def Obligations.CallsAreTaken : Prop :=
  ∀ (s s₀ : State) (tag : Byte) (reference kind key presence seg : Nat) (body : List Byte),
    fits [4, 1, 3, 1, 2] [reference, kind, key, presence, seg] →
    body = joinFields [4, 1, 3, 1, 2] [reference, kind, key, presence, seg] → s.Takes ⟨0x20#8, tag, body⟩ s₀ →
    (s₀.crl.mode = .configure ∨ s₀.crl.pendingConfigure = true →
      exec (.call tag body) s = .next (s₀.answered 0x20#8 tag .mode .empty))
    ∧ (s₀.crl.mode ≠ .configure → s₀.crl.pendingConfigure = false →
      (reference = 0 ∨ kind = 0 ∨ 5 < kind ∨ 1 < presence ∨ presence = 1 ∧ s₀.ms.segments.get seg = none →
        exec (.call tag body) s = .next (s₀.answered 0x20#8 tag .range .empty))
      ∧ ∀ (k : CallKind) (place : Option Nat), reference ≠ 0 →
        (kind, k) ∈ [(1, CallKind.outsideOdour), (2, .insideOdour), (3, .escape), (4, .fireOrBlast), (5, .noSupply)] →
        (presence = 0 ∧ place = none ∨ presence = 1 ∧ place = some seg ∧ (s₀.ms.segments.get seg).isSome = true) →
        let call : CallRec := ⟨.ofNat 32 reference, k, .ofNat 24 key, place, s₀.tb.time⟩
        let cell (n w : Nat) : Nat × Nat := (n / 4096 / 2 ^ w, n % 4096 / 2 ^ w)
        let fit (i : Incident) : Prop :=
          if k = .noSupply then i.cls = .supply
            ∧ (place = none → i.segment = none ∧ cell key i.maskWidth = cell i.key.toNat i.maskWidth)
            ∧ (place ≠ none → i.segment = place)
          else i.cls = .leak ∧ cell key i.maskWidth = cell i.key.toNat i.maskWidth
            ∧ ¬(place ≠ none ∧ i.segment ≠ none ∧ i.segment ≠ place)
        ((∃ i ∈ s₀.it.incidents, ∃ c ∈ i.calls, c.reference = .ofNat 32 reference) →
          exec (.call tag body) s = .next (s₀.answered 0x20#8 tag .duplicate .empty))
        ∧ ((∀ i ∈ s₀.it.incidents, ∀ c ∈ i.calls, c.reference ≠ .ofNat 32 reference) →
          (∀ x n, k = .noSupply → place = some seg → s₀.ou.services.get seg = some x →
            (x.state = .offSupply ∨ x.state = .restoring) → x.outage = some n →
            exec (.call tag body) s = .next ((s₀.setOutage n { s₀.outage n with
              noGas := min ((s₀.outage n).noGas + 1) 65535 }).answered 0x20#8 tag .ok (.call (.outage n))))
          ∧ ((k = .noSupply → place = some seg → ∀ x, s₀.ou.services.get seg = some x →
              x.state = .inService ∨ x.state = .depressed) →
            (s₀.it.incidents.map (·.serial)).Nodup →
            (∀ before i after, s₀.it.incidents = before ++ i :: after → fit i → i.calls.length < 16 →
              (∀ b ∈ before, fit b → 16 ≤ b.calls.length) →
              ∃ (t : State) (y : Incident),
                exec (.call tag body) s
                    = .next (t.answered 0x20#8 tag .ok (.call (.attached i.serial (i.calls.length + 1))))
                  ∧ t.it.incidents = before ++ y :: after
                  ∧ y = { i with
                      calls := i.calls ++ [call]
                      segment := if i.segment = none then place else i.segment
                      urgent := i.urgent || k == .fireOrBlast
                      floor := if i.telemetry = true ∧ i.calls = [] ∧ i.floor = none then some .p1 else i.floor
                      grade := y.grade, context := y.context
                      maskWidth := if y.grade.rank < i.grade.rank then (s₀.it.params.of y.grade).maskWidth
                        else i.maskWidth }
                  ∧ (∀ c ∈ y.calls, y.grade.rank ≤ c.kind.grade.rank) ∧ (∀ f, y.floor = some f → y.grade.rank ≤ f.rank)
                  ∧ (y.floor = some y.grade ∨ ∃ c ∈ y.calls, c.kind.grade = y.grade)
                  ∧ (i.context ≠ none → y.context = i.context)
                  ∧ t.ms = s₀.ms ∧ t.flc = s₀.flc ∧ t.pe = s₀.pe ∧ t.vou = s₀.vou ∧ t.ou = s₀.ou ∧ t.crl = s₀.crl
                  ∧ t.tb.time = s₀.tb.time ∧ t.pending = s₀.pending)
            ∧ ((∀ i ∈ s₀.it.incidents, fit i → 16 ≤ i.calls.length) →
              ((∀ n, n < 48 → ∃ i ∈ s₀.it.incidents, i.slot = n) →
                exec (.call tag body) s = .next (s₀.answered 0x20#8 tag .full .empty))
              ∧ ∀ slot linked, slot < 48 → (∀ i ∈ s₀.it.incidents, i.slot ≠ slot) →
                (∀ n, n < slot → ∃ i ∈ s₀.it.incidents, i.slot = n) → s₀.it.incidents.length ≤ 48 →
                (linked = none ∧ (∀ i ∈ s₀.it.incidents, ¬fit i)
                  ∨ ∃ before i after, s₀.it.incidents = before ++ i :: after ∧ fit i ∧ (∀ b ∈ before, ¬fit b)
                      ∧ linked = some i.serial) →
                (s₀.channel slot).running = false →
                ∃ (t : State) (serial steps : Nat) (c : Option Nat),
                  exec (.call tag body) s = .next (t.answered 0x20#8 tag .ok (.call (.opened serial linked)))
                    ∧ serial = Nat.repeat (fun n => if 65535 ≤ n then 1 else n + 1) steps s₀.it.nextSerial
                    ∧ (∀ i ∈ s₀.it.incidents, i.serial ≠ serial)
                    ∧ (∀ m, m < steps → ∃ i ∈ s₀.it.incidents,
                        i.serial = Nat.repeat (fun n => if 65535 ≤ n then 1 else n + 1) m s₀.it.nextSerial)
                    ∧ t.it = { s₀.it with
                        nextSerial := if 65535 ≤ serial then 1 else serial + 1
                        incidents := s₀.it.incidents ++ [{
                          slot := slot, serial := serial, cls := if k = .noSupply then .supply else .leak, source := .call,
                          state := .opened, grade := k.grade, floor := none, urgent := k == .fireOrBlast,
                          key := .ofNat 24 key, maskWidth := (s₀.it.params.of k.grade).maskWidth, segment := place,
                          calls := [call], linked := linked, context := c, stage := 0, created := s₀.tb.time }] }
                    ∧ t.channel slot = .loaded (s₀.it.params.of k.grade).attendTime .single true
                    ∧ t.ms = s₀.ms ∧ t.flc = s₀.flc ∧ t.pe = s₀.pe ∧ t.vou = s₀.vou ∧ t.ou = s₀.ou ∧ t.crl = s₀.crl
                    ∧ t.tb.time = s₀.tb.time ∧ t.pending = s₀.pending))))
    ∧ CallKind.outsideOdour.grade = .p3 ∧ CallKind.insideOdour.grade = .p2 ∧ CallKind.escape.grade = .p1
    ∧ CallKind.fireOrBlast.grade = .p1 ∧ CallKind.noSupply.grade = .p3

/-- ATTEND, MADE_SAFE, CLOSE_INCIDENT and FLOOR: RANGE for serial 0 (and for a floor value outside the four), NOT_FOUND
for a serial no open incident holds, STATE where the incident's state or context forbids; otherwise the effect of each:
the state and a stopped channel, the incident discarded, or the floor with the grade it gives (R110 to R113, R120 to
R122). -/
def Obligations.IncidentRequestsAreTaken : Prop :=
  ∀ (s s₀ : State) (tag : Byte) (serial value : Nat), serial < 65536 → value < 256 →
    let one := joinFields [2] [serial]
    let two := joinFields [2, 1] [serial, value]
    (s.Takes ⟨0x21#8, tag, one⟩ s₀ →
      (serial = 0 → exec (.attend tag one) s = .next (s₀.answered 0x21#8 tag .range .empty))
      ∧ (serial ≠ 0 → s₀.incident serial = none →
          exec (.attend tag one) s = .next (s₀.answered 0x21#8 tag .notFound .empty))
      ∧ ∀ i, serial ≠ 0 → s₀.incident serial = some i →
        (i.state ≠ .opened → exec (.attend tag one) s = .next (s₀.answered 0x21#8 tag .state .empty))
        ∧ (i.state = .opened → exec (.attend tag one) s = .next
            (((s₀.setIncident { i with state := .attended }).stopChannel i.slot).answered 0x21#8 tag .ok .empty)))
    ∧ (s.Takes ⟨0x22#8, tag, one⟩ s₀ →
      (serial = 0 → exec (.madeSafe tag one) s = .next (s₀.answered 0x22#8 tag .range .empty))
      ∧ (serial ≠ 0 → s₀.incident serial = none →
          exec (.madeSafe tag one) s = .next (s₀.answered 0x22#8 tag .notFound .empty))
      ∧ ∀ i, serial ≠ 0 → s₀.incident serial = some i →
        (i.state = .madeSafe → exec (.madeSafe tag one) s = .next (s₀.answered 0x22#8 tag .state .empty))
        ∧ (i.state ≠ .madeSafe → exec (.madeSafe tag one) s = .next
            (((s₀.setIncident { i with state := .madeSafe }).stopChannel i.slot).answered 0x22#8 tag .ok .empty)))
    ∧ (s.Takes ⟨0x23#8, tag, one⟩ s₀ →
      (serial = 0 → exec (.closeIncident tag one) s = .next (s₀.answered 0x23#8 tag .range .empty))
      ∧ (serial ≠ 0 → s₀.incident serial = none →
          exec (.closeIncident tag one) s = .next (s₀.answered 0x23#8 tag .notFound .empty))
      ∧ ∀ i, serial ≠ 0 → s₀.incident serial = some i →
        (i.context ≠ none → exec (.closeIncident tag one) s = .next (s₀.answered 0x23#8 tag .state .empty))
        ∧ (i.context = none → exec (.closeIncident tag one) s = .next
            ((((s₀.stopChannel i.slot).post .operations (.incidentClosed i.serial i.cls i.source i.state i.grade
              i.calls.length i.stage i.created)).withIt { s₀.it with
                incidents := s₀.it.incidents.filter fun j => j.serial != serial }).answered 0x23#8 tag .ok .empty)))
    ∧ (s.Takes ⟨0x24#8, tag, two⟩ s₀ →
      (serial = 0 ∨ value = 0 ∨ 4 < value → exec (.floor tag two) s = .next (s₀.answered 0x24#8 tag .range .empty))
      ∧ (serial ≠ 0 → 1 ≤ value → value ≤ 4 → s₀.incident serial = none →
          exec (.floor tag two) s = .next (s₀.answered 0x24#8 tag .notFound .empty))
      ∧ ∀ before i after (f : Option Grade), serial ≠ 0 → s₀.it.incidents = before ++ i :: after → i.serial = serial →
        (s₀.it.incidents.map (·.serial)).Nodup →
        (value, f) ∈ [(1, some Grade.p1), (2, some .p2), (3, some .p3), (4, none)] →
          ∃ (t : State) (y : Incident), exec (.floor tag two) s = .next (t.answered 0x24#8 tag .ok (.grade y.grade))
            ∧ t.it = { s₀.it with incidents := before ++ y :: after }
            ∧ y = { i with
                floor := f, grade := y.grade, context := y.context
                maskWidth := if y.grade.rank < i.grade.rank then (s₀.it.params.of y.grade).maskWidth else i.maskWidth }
            ∧ (∀ c ∈ i.calls, y.grade.rank ≤ c.kind.grade.rank) ∧ (∀ g, f = some g → y.grade.rank ≤ g.rank)
            ∧ (i.calls = [] → f = none → y.grade = .p1)
            ∧ (i.calls ≠ [] ∨ f ≠ none → f = some y.grade ∨ ∃ c ∈ i.calls, c.kind.grade = y.grade)
            ∧ (y.grade = i.grade → t.nq = s₀.nq ∧ t.tb = s₀.tb)
            ∧ (i.grade.rank ≤ y.grade.rank ∨ i.context ≠ none → y.context = i.context)
            ∧ t.ms = s₀.ms ∧ t.flc = s₀.flc ∧ t.pe = s₀.pe ∧ t.vou = s₀.vou ∧ t.ou = s₀.ou ∧ t.crl = s₀.crl
            ∧ t.tb.time = s₀.tb.time ∧ t.pending = s₀.pending)

/-- An expiry of an incident's channel raises the escalation stage, to 15 at most, posts ESCALATION to SAFETY for P1
and to OPERATIONS otherwise, and starts the stopped channel PERIODIC with the reminder interval of the grade; a running
one is left as it is. An expiry of a slot that holds no incident changes nothing else (R118, R119). An expiry that is
not due changes nothing (DESIGN CHOICE, log entry 5). -/
def Obligations.DeadlinesEscalate : Prop :=
  ∀ (s : State) (slot : Fin 48),
    (slot.val ∉ s.tb.due → exec (.incidentDeadlineExpiry slot) s = .next s)
    ∧ (s.crl.held = false → slot.val ∈ s.tb.due →
      ((∀ i ∈ s.it.incidents, i.slot ≠ slot.val) →
        exec (.incidentDeadlineExpiry slot) s = .next (s.withTb { s.tb with due := s.tb.due.erase slot.val }))
      ∧ ∀ before i after, s.it.incidents = before ++ i :: after → i.slot = slot.val → (∀ b ∈ before, b.slot ≠ slot.val) →
        ((before ++ i :: after).map (·.serial)).Nodup →
        ∃ t : State, exec (.incidentDeadlineExpiry slot) s = .next t
          ∧ t.it = { s.it with incidents := before ++ { i with stage := min (i.stage + 1) 15 } :: after }
          ∧ t.nq = (s.post (if i.grade = .p1 then .safety else .operations)
              (.escalation i.serial i.grade i.state (min (i.stage + 1) 15) i.calls.length i.created)).nq
          ∧ ((s.channel slot).running = false →
              t.channel slot = .loaded (s.it.params.of i.grade).reminder .periodic true)
          ∧ ((s.channel slot).running = true → t.channel slot = s.channel slot)
          ∧ (∀ n, n ≠ slot.val → t.channel n = s.channel n) ∧ t.tb.time = s.tb.time
          ∧ t.ms = s.ms ∧ t.flc = s.flc ∧ t.pe = s.pe ∧ t.vou = s.vou ∧ t.me = s.me ∧ t.iu = s.iu ∧ t.ou = s.ou
          ∧ t.crl = s.crl ∧ t.pending = s.pending)

/-! ## Isolation (chapter 7) -/

/-- PLAN, CANCEL and EXTEND: the refusals of each in their order; PLAN takes the lowest-indexed FREE context into
SEARCHING and asks for its search; CANCEL frees a context, with its channel, its search, its memberships and its
incident's context field; EXTEND bars valves and adds seeds, and the context searches again (R89, R100, R127, R128,
R135, R137, R150). A remote-only byte above 1 is refused with RANGE (DEDUCED, log entry 10). -/
def Obligations.ContextsArePlanned : Prop :=
  (∀ (s s₀ : State) (tag : Byte) (serial remoteOnly : Nat) (seeds : List Nat) (body : List Byte),
    serial < 65536 → remoteOnly < 256 → seeds.length < 256 → (∀ g ∈ seeds, g < 65536) →
    body = joinFields ([2, 1] ++ List.replicate seeds.length 2 ++ [1]) ([serial, seeds.length] ++ seeds ++ [remoteOnly]) →
    s.Takes ⟨0x30#8, tag, body⟩ s₀ → (s₀.it.incidents.map (·.serial)).Nodup →
    ∀ refusal : Option ResultCode,
      (refusal =
        if s₀.crl.mode = .configure ∨ s₀.crl.pendingConfigure = true then some .mode
        else if seeds.length = 0 ∨ 4 < seeds.length ∨ (∃ g ∈ seeds, s₀.ms.segments.get g = none) ∨ ¬seeds.Nodup
          ∨ 1 < remoteOnly then some .range
        else if serial ≠ 0 ∧ s₀.incident serial = none then some .notFound
        else if serial ≠ 0 ∧ (s₀.incident serial).bind (·.context) ≠ none then some .state
        else if ∃ c ∈ List.range 8, ∃ g ∈ seeds, g ∈ (s₀.context c).zone then some .state
        else if ∀ c ∈ List.range 8, (s₀.context c).state ≠ .free then some .full
        else none) →
      (∀ code, refusal = some code → exec (.plan tag body) s = .next (s₀.answered 0x30#8 tag code .empty))
      ∧ (refusal = none → ∀ c, c < 8 → (s₀.context c).state = .free → (∀ d, d < c → (s₀.context d).state ≠ .free) →
        ∃ t : State, exec (.plan tag body) s = .next (t.answered 0x30#8 tag .accepted (.context c))
          ∧ t.context c = { s₀.context c with
              state := .searching, searchNumber := ((s₀.context c).searchNumber + 1) % 65536, incident := serial,
              seeds := seeds, remoteOnly := remoteOnly == 1, automatic := false }
          ∧ (∀ d, d ≠ c → t.context d = s₀.context d)
          ∧ t.it = { s₀.it with incidents := s₀.it.incidents.map fun i =>
              if serial ≠ 0 ∧ i.serial = serial then { i with context := some c } else i }
          ∧ t.nq = (s₀.post .operations
              (.isolationState c serial .free .searching (s₀.context c).revision none none none)).nq
          ∧ (s₀.me.state = .idle → s₀.me.pendingTrace = false → s₀.me.queue = [] →
              t.me = { s₀.me with state := .searching (t.newSearch c) })
          ∧ (s₀.me.state ≠ .idle → (∀ r, s₀.me.state = .searching r → r.context ≠ c) →
              t.me = { s₀.me with queue := if c ∈ s₀.me.queue then s₀.me.queue else s₀.me.queue ++ [c] })
          ∧ t.ms = s₀.ms ∧ t.flc = s₀.flc ∧ t.pe = s₀.pe ∧ t.vou = s₀.vou ∧ t.ou = s₀.ou ∧ t.tb = s₀.tb ∧ t.crl = s₀.crl
          ∧ t.pending = s₀.pending))
  ∧ (∀ (s s₀ : State) (tag : Byte) (c : Nat), c < 256 → s.Takes ⟨0x35#8, tag, joinFields [1] [c]⟩ s₀ →
    (s₀.it.incidents.map (·.serial)).Nodup →
    ∀ (x : Context) (refusal : Option ResultCode), x = s₀.context c →
      (refusal =
        if s₀.crl.mode = .configure ∨ s₀.crl.pendingConfigure = true then some .mode
        else if 8 ≤ c then some .range
        else if ¬(x.state = .searching ∨ x.state = .planned ∨ x.state = .failed)
          ∨ (∃ k ∈ List.range 12, (s₀.slot k).map (·.origin) = some (.context c))
          ∨ (∃ e ∈ x.boundary, e.byContext = true) ∨ x.interiorClosed ≠ [] then some .state
        else none) →
      (∀ code, refusal = some code →
        exec (.cancel tag (joinFields [1] [c])) s = .next (s₀.answered 0x35#8 tag code .empty))
      ∧ (refusal = none → ∃ t : State, exec (.cancel tag (joinFields [1] [c])) s = .next (t.answered 0x35#8 tag .ok .empty)
          ∧ t.context c = .freeWith x.searchNumber ∧ (∀ d, d ≠ c → t.context d = s₀.context d)
          ∧ (t.channel (60 + c)).running = false
          ∧ ((∀ r, s₀.me.state = .searching r → r.context = c → c ∉ s₀.me.queue) →
              c ∉ t.me.queue ∧ ∀ r, t.me.state = .searching r → r.context ≠ c)
          ∧ (∀ g y, s₀.ou.services.get g = some y → ∃ z, t.ou.services.get g = some z ∧ z.fed = y.fed
              ∧ z.condition = y.condition ∧ z.member = if g ∈ x.zone then none else y.member)
          ∧ t.it = { s₀.it with incidents := s₀.it.incidents.map fun i =>
              if x.incident ≠ 0 ∧ i.serial = x.incident then { i with context := none } else i }
          ∧ t.ms = s₀.ms ∧ t.flc = s₀.flc ∧ t.pe = s₀.pe ∧ t.vou = s₀.vou ∧ t.crl = s₀.crl ∧ t.tb.time = s₀.tb.time
          ∧ t.pending = s₀.pending))
  ∧ ∀ (s s₀ : State) (tag : Byte) (c : Nat) (bars seeds : List Nat) (body : List Byte),
    c < 256 → bars.length < 256 → seeds.length < 256 → (∀ v ∈ bars, v < 65536) → (∀ g ∈ seeds, g < 65536) →
    body = joinFields ([1, 1] ++ List.replicate bars.length 2 ++ [1] ++ List.replicate seeds.length 2)
      ([c, bars.length] ++ bars ++ [seeds.length] ++ seeds) →
    s.Takes ⟨0x32#8, tag, body⟩ s₀ →
    ∀ (x : Context) (barred : List Nat) (refusal : Option ResultCode), x = s₀.context c →
      barred = bars.foldl appendNew x.barred →
      (refusal =
        if s₀.crl.mode = .configure ∨ s₀.crl.pendingConfigure = true then some .mode
        else if 8 ≤ c ∨ 8 < bars.length ∨ 4 < seeds.length ∨ (bars = [] ∧ seeds = [])
          ∨ (∃ v ∈ bars, s₀.ms.valves.get v = none) ∨ (∃ g ∈ seeds, s₀.ms.segments.get g = none) then some .range
        else if ¬(x.state = .planned ∨ x.state = .failed ∨ x.state = .holding ∨ x.state = .confirmed
          ∨ x.state = .breached) then some .state
        else if ∃ d ∈ List.range 8, d ≠ c ∧ ∃ g ∈ seeds, g ∈ (s₀.context d).zone then some .state
        else if 16 < barred.length then some .full
        else none) →
      (∀ code, refusal = some code → exec (.extend tag body) s = .next (s₀.answered 0x32#8 tag code .empty))
      ∧ (refusal = none → ∃ t : State, exec (.extend tag body) s = .next (t.answered 0x32#8 tag .ok .empty)
          ∧ t.context c = { x with
              state := .searching, searchNumber := (x.searchNumber + 1) % 65536, barred := barred, extensionSeeds := seeds
              unverified := if x.state = .confirmed then false else x.unverified
              operatorConfirmed := if x.state = .confirmed then false else x.operatorConfirmed }
          ∧ (∀ d, d ≠ c → t.context d = s₀.context d)
          ∧ (t.channel (60 + c)).running = false ∧ (∀ n, n ≠ 60 + c → t.channel n = s₀.channel n)
          ∧ t.nq = (s₀.post .operations (.isolationState c x.incident x.state .searching x.revision none none none)).nq
          ∧ (s₀.me.state = .idle → s₀.me.pendingTrace = false → s₀.me.queue = [] →
              t.me = { s₀.me with state := .searching (t.newSearch c) })
          ∧ (s₀.me.state ≠ .idle → (∀ r, s₀.me.state = .searching r → r.context ≠ c) →
              t.me = { s₀.me with queue := if c ∈ s₀.me.queue then s₀.me.queue else s₀.me.queue ++ [c] })
          ∧ t.ms = s₀.ms ∧ t.flc = s₀.flc ∧ t.pe = s₀.pe ∧ t.vou = s₀.vou ∧ t.it = s₀.it ∧ t.ou = s₀.ou ∧ t.crl = s₀.crl
          ∧ t.tb.time = s₀.tb.time ∧ t.pending = s₀.pending)

/-- CONFIRM: refused with MODE, RANGE and STATE as the rule says; taken in HOLDING, the context enters CONFIRMED with
OPERATOR_CONFIRMED set and its suspect list kept, and ISOLATION_STATE is posted. No step leaves CONFIRMED with a flag
still set (R148). -/
def Obligations.ConfirmTakesAHoldingContext : Prop :=
  (∀ (s s₀ : State) (tag : Byte) (c : Nat) (x : Context), c < 256 → x = s₀.context c →
    s.Takes ⟨0x33#8, tag, joinFields [1] [c]⟩ s₀ →
      (s₀.crl.mode = .configure ∨ s₀.crl.pendingConfigure = true →
        exec (.confirm tag (joinFields [1] [c])) s = .next (s₀.answered 0x33#8 tag .mode .empty))
      ∧ (s₀.crl.mode ≠ .configure → s₀.crl.pendingConfigure = false →
        (8 ≤ c → exec (.confirm tag (joinFields [1] [c])) s = .next (s₀.answered 0x33#8 tag .range .empty))
        ∧ (c < 8 → x.state ≠ .holding →
          exec (.confirm tag (joinFields [1] [c])) s = .next (s₀.answered 0x33#8 tag .state .empty))
        ∧ (c < 8 → x.state = .holding → exec (.confirm tag (joinFields [1] [c])) s
            = .next (((s₀.setContext c { x with state := .confirmed, operatorConfirmed := true }).post .operations
                (.isolationState c x.incident .holding .confirmed x.revision none none (some (x.unverified, true)))).answered
                  0x33#8 tag .ok .empty))))
  ∧ ∀ (s t : State) (c : Nat), step s = .next t → (s.context c).state = .confirmed → (t.context c).state ≠ .confirmed →
      (t.context c).unverified = false ∧ (t.context c).operatorConfirmed = false

/-- A context order request is answered by the first check of R83 that fails, by the lowest-indexed FREE slot, or by a
place on the waiting list. The outcome of a CLOSE order of a boundary valve gives its entry's status and
closed-by-context flag and moves an EXECUTING or PLANNED context as the table of R142 says; of another valve it may
join the interior-closed list. An order in a slot ends by the steps of R78, and the slot it frees is offered to the
waiting list: the oldest entry that passes steps 3 to 8 of R83 takes it, and those before it end with their outcomes.
In RELEASING, the outcome of an OPEN order sets the valve's reopen entry OPENED, or FAILED with the outcome where it is
not OPENED; the outcome of a CLOSE order routes a HELD entry of its valve again by the table of R151, this time with no
CLOSE order of the context live, and keeps every other reopen entry. The release ends where every entry is OPENED (R78,
R83, R84, R142 to R144, R151, R152). That R142's updates of the boundary entry apply in RELEASING too, and which route a
routed entry has, is DEDUCED (log entry 20). -/
def Obligations.ContextOrdersAreAnswered : Prop :=
  (∀ (s : State) (v : Nat) (action : Action), action = .close ∨ action = .opening →
    s.requestCheck v action =
      match s.ms.valves.get v, s.vou.valves.get v with
      | some rec, some x =>
        if rec.actuation ≠ .remote then some (.refused .state)
        else if x.inhibit = true then some (.refused .inhibited)
        else if x.slot ≠ none ∨ v ∈ s.vou.waiting.map (·.valve) then some (.refused .state)
        else if x.authority ≠ some .remote then some (.refused .authority)
        else if rec.station.map (fun st => (s.station st).health) = some .lost then some (.refused .link)
        else if x.position = (if action = .close then .closed else .opened) then some .doneAlready
        else none
      | _, _ => some (.refused .state))
  ∧ (∀ (s : State) (c v : Nat) (action : Action), action = .close ∨ action = .opening →
    s.contextRequest c v action =
      let ended (o : OrderOutcome) : State × OrderReply :=
        (s.post .operations (.orderOutcome none v action (.context c) o 0), .outcome o)
      if s.crl.mode ≠ .supervise ∨ s.crl.pendingConfigure = true then ended (.refused .mode)
      else if s.vou.hold = true then ended (.refused .hold)
      else match s.requestCheck v action with
        | some o => ended o
        | none =>
          match (List.range 12).find? (fun k => (s.slot k).isNone) with
          | some k => ((s.setSlot k (some {
              stage := .waiting, valve := v, action := action, priority := 3, origin := .context c, oneShot := false,
              attempts := 0, abortRequested := false, waitingTime := s.tb.time })).setValveSlot v (some k), .slot k)
          | none =>
            if 192 ≤ s.vou.waiting.length then ended (.refused .full)
            else (s.setWaiting (s.vou.waiting ++ [⟨c, v, action, s.tb.time⟩]), .waiting))
  ∧ (∀ (s : State) (k : Nat) (order : Order) (o : OrderOutcome), s.slot k = some order →
    (s.ended k order o).Offers k (s.endOrder k o))
  ∧ (∀ (s : State) (c v : Nat) (o : OrderOutcome) (x : Context), c < 8 → x = s.context c → x.state = .releasing →
    (∀ reopen : List ReopenEntry,
      reopen = (x.reopen.map fun e =>
        if e.valve = v then
          if o = .done ∨ o = .doneAlready then { e with status := .opened, lastOutcome := none }
          else if e.status = .opened then e else { e with status := .failed, lastOutcome := some o }
        else e) →
      (s.setContext c { x with reopen := reopen }).Releases c (s.deliverOutcome c v .opening o))
    ∧ ∀ (y : Context) (u t : State) (accepted aborts : Bool),
      (accepted = true ↔ o ∈ [OrderOutcome.done, .travelTimeout, .interruptedLocal, .abortedLate, .abortedMoving]) →
      (aborts = true ↔ o ∈ [OrderOutcome.abortedLate, .abortedMoving, .aborted, .abortedHold, .abortedMode, .refused .mode,
        .refused .hold]) →
      y = (if v ∈ x.boundary.map (·.valve) then
          { x with boundary := x.boundary.map fun e =>
              if e.valve = v then
                { e with
                  status := if o = .done then e.status else if o = .doneAlready then .closed
                    else if aborts = true then (if e.status = .closed then .closed else .openTodo) else .failed
                  byContext := e.byContext || accepted }
              else e }
        else { x with interiorClosed :=
            if accepted = true ∧ v ∉ x.interiorClosed then x.interiorClosed ++ [v] else x.interiorClosed }) →
      u = s.setContext c y → t = s.deliverOutcome c v .close o →
      ((∀ e ∈ x.reopen, e.valve = v → e.status ≠ .held) → t = u)
      ∧ ((∃ e ∈ x.reopen, e.valve = v ∧ e.status = .held) →
        ∀ rec live, s.ms.valves.get v = some rec → s.vou.valves.get v = some live →
        (∀ k order, live.slot = some k → s.slot k = some order →
          ¬(order.origin = .context c ∧ order.action = .close)) →
        let routed (w : State) (entry : ReopenEntry) : State :=
          w.setContext c { y with reopen := x.reopen.map fun e => if e.valve = v then entry else e }
        (live.position = .opened → (routed u ⟨v, none, .opened, none⟩).Releases c t)
        ∧ (live.position ≠ .opened → ¬(rec.actuation = .remote ∧ live.authority = some .remote) →
          (routed u ⟨v, some .crew, .crewTodo, none⟩).Releases c t)
        ∧ (live.position ≠ .opened → rec.actuation = .remote → live.authority = some .remote →
          ∀ (w : State) (reply : OrderReply), (w, reply) = u.contextRequest c v .opening →
          (routed w (match reply with
            | .slot _ => ⟨v, some .remote, .ordered, none⟩
            | .waiting => ⟨v, some .remote, .waitingSlot, none⟩
            | .outcome .doneAlready => ⟨v, some .remote, .opened, none⟩
            | .outcome refusal => ⟨v, some .remote, .failed, some refusal⟩)).Releases c t)))
  ∧ ∀ (s : State) (c v : Nat) (o : OrderOutcome) (x y : Context), c < 8 → x = s.context c →
    y = (s.deliverOutcome c v .close o).context c → (x.boundary.map (·.valve)).Nodup →
    x.state ≠ .free → x.state ≠ .releasing → o ≠ .doneAlready → o ≠ .recallUnanswered →
    ∀ accepted aborts : Bool,
      (accepted = true ↔ o ∈ [OrderOutcome.done, .travelTimeout, .interruptedLocal, .abortedLate, .abortedMoving]) →
      (aborts = true ↔ o ∈ [OrderOutcome.abortedLate, .abortedMoving, .aborted, .abortedHold, .abortedMode, .refused .mode,
        .refused .hold]) →
      (∀ e ∈ x.boundary, e.valve = v →
        (∃ e' ∈ y.boundary, e'.valve = v ∧ e'.action = e.action ∧ e'.byContext = (e.byContext || accepted)
          ∧ (o = .done → e'.status = e.status)
          ∧ (aborts = true → e'.status = if e.status = .closed then .closed else .openTodo)
          ∧ (o ≠ .done → aborts = false → e'.status = .failed))
        ∧ (x.state = .executing → y.state = if o = .done then .executing else if aborts then .planned else .searching)
        ∧ (x.state = .planned → y.state = if o = .done ∨ aborts = true then .planned else .searching)
        ∧ (x.state ≠ .executing → x.state ≠ .planned → y.state = x.state)
        ∧ y.interiorClosed = x.interiorClosed)
      ∧ (v ∉ x.boundary.map (·.valve) →
          y = { x with interiorClosed :=
            if accepted = true ∧ v ∉ x.interiorClosed then x.interiorClosed ++ [v] else x.interiorClosed })

/-- EXECUTE and RELEASE: the refusals of each in their order. EXECUTE requests a CLOSE for each REMOTE entry that is
OPEN_TODO or FAILED, answers every entry as the requests leave it, and the context stands in EXECUTING, in CLOSED_WAIT
where every entry is CLOSED, or in SEARCHING where an entry failed. RELEASE routes every valve the context closed, or
is closing, for reopening, judging its position before a CLOSE order that is still live, as R151's table does (log
entry 8), and ends at once where every entry is OPENED (R139, R140, R142, R145, R151, R152). An entry whose request was
refused has the route REMOTE (DEDUCED, log entry 20). -/
def Obligations.ExecuteAndReleaseAreTaken : Prop :=
  ∀ (s s₀ : State) (tag : Byte) (c : Nat) (x : Context), c < 256 → x = s₀.context c →
    (x.boundary.map (·.valve)).Nodup → (x.reopen.map (·.valve)).Nodup →
    ∀ body, body = joinFields [1] [c] →
    (s.Takes ⟨0x31#8, tag, body⟩ s₀ →
      ∀ refusal : Option ResultCode,
        (refusal = if s₀.crl.mode ≠ .supervise ∨ s₀.crl.pendingConfigure = true then some .mode
          else if s₀.vou.hold = true then some .hold
          else if 8 ≤ c then some .range
          else if x.state ≠ .planned ∧ x.state ≠ .breached then some .state else none) →
        (∀ code, refusal = some code → exec (.execute tag body) s = .next (s₀.answered 0x31#8 tag code .empty))
        ∧ (refusal = none → ∃ (t : State) (entries : List (Nat × CloseAction × EntryStatus)) (state : ContextState),
          exec (.execute tag body) s = .next (t.answered 0x31#8 tag .ok (.executed entries state))
            ∧ entries.map (fun e => (e.1, e.2.1)) = x.boundary.map (fun e => (e.valve, e.action))
            ∧ (∀ e ∈ x.boundary, ∃ status, (e.valve, e.action, status) ∈ entries
                ∧ (e.action ≠ .remote ∨ e.status ≠ .openTodo ∧ e.status ≠ .failed → status = e.status)
                ∧ (e.action = .remote → e.status = .openTodo ∨ e.status = .failed →
                    (s₀.requestCheck e.valve .close = some .doneAlready → status = .closed)
                    ∧ (∀ code, s₀.requestCheck e.valve .close = some (.refused code) → status = .failed)
                    ∧ (s₀.requestCheck e.valve .close = none →
                        status = .ordered ∨ status = .waitingSlot ∨ status = .failed)))
            ∧ state = (t.context c).state ∧ (t.context c).executed = true ∧ (t.context c).zone = x.zone
            ∧ state = (if ∃ e ∈ entries, e.2.1 = .remote ∧ e.2.2 = .failed then .searching
                else if ∀ e ∈ entries, e.2.2 = .closed then .closedWait else .executing)
            ∧ (∀ d, d ≠ c → t.context d = s₀.context d)
            ∧ t.ms = s₀.ms ∧ t.flc = s₀.flc ∧ t.pe = s₀.pe ∧ t.it = s₀.it ∧ t.ou = s₀.ou ∧ t.crl = s₀.crl
            ∧ t.tb.time = s₀.tb.time ∧ t.pending = s₀.pending))
    ∧ (s.Takes ⟨0x34#8, tag, body⟩ s₀ →
      ∀ refusal : Option ResultCode,
        (refusal = if s₀.crl.mode = .configure ∨ s₀.crl.pendingConfigure = true then some .mode
          else if 8 ≤ c then some .range
          else if x.state = .free ∨ x.state = .searching ∨ x.state = .closedWait
            ∨ x.state = .executing ∧ s₀.vou.hold = false then some .state else none) →
        (∀ code, refusal = some code → exec (.release tag body) s = .next (s₀.answered 0x34#8 tag code .empty))
        ∧ (refusal = none → ∃ (t : State) (reopen : List ReopenEntry) (state : ContextState),
          exec (.release tag body) s = .next (t.answered 0x34#8 tag .ok (.released reopen state))
            ∧ state = (t.context c).state
            ∧ state = (if ∀ e ∈ reopen, e.status = .opened then .free else .releasing)
            ∧ (state = .releasing → (t.context c).reopen = reopen ∧ (t.context c).zone = x.zone)
            ∧ (state = .free → t.context c = .freeWith x.searchNumber)
            ∧ (x.state = .releasing → reopen.map (·.valve) = x.reopen.map (·.valve)
                ∧ ∀ e ∈ x.reopen, e.status ≠ .failed → e.status ≠ .crewTodo → e ∈ reopen)
            ∧ (x.state ≠ .releasing → (reopen.map (·.valve)).Pairwise (· < ·)
                ∧ (∀ v, v ∈ reopen.map (·.valve) ↔ (∃ e ∈ x.boundary, e.valve = v ∧ (e.byContext = true ∨ e.status = .ordered))
                    ∨ v ∈ x.interiorClosed ∨ s₀.closingOrder c v = true))
            ∧ (∀ e ∈ reopen, (x.state = .releasing → ∃ old ∈ x.reopen, old.valve = e.valve
                  ∧ (old.status = .failed ∨ old.status = .crewTodo)) →
                ∀ rec y, s₀.ms.valves.get e.valve = some rec → s₀.vou.valves.get e.valve = some y →
                (y.position = .opened → e.status = .opened)
                ∧ (y.position ≠ .opened → s₀.closingOrder c e.valve = true → e.status = .held)
                ∧ (s₀.closingOrder c e.valve = false →
                  (y.position ≠ .opened → ¬(rec.actuation = .remote ∧ y.authority = some .remote) →
                      e.status = .crewTodo ∧ e.route = some .crew)
                  ∧ (y.position ≠ .opened → rec.actuation = .remote → y.authority = some .remote →
                      e.route = some .remote
                      ∧ (s₀.crl.mode ≠ .supervise → e.status = .failed ∧ e.lastOutcome = some (.refused .mode))
                      ∧ (s₀.crl.mode = .supervise → s₀.vou.hold = true →
                          e.status = .failed ∧ e.lastOutcome = some (.refused .hold))
                      ∧ (s₀.crl.mode = .supervise → s₀.vou.hold = false →
                          (∀ o, s₀.requestCheck e.valve .opening = some o → e.status = .failed ∧ e.lastOutcome = some o)
                          ∧ (s₀.requestCheck e.valve .opening = none →
                              e.status = .ordered ∨ e.status = .waitingSlot
                                ∨ e.status = .failed ∧ e.lastOutcome = some (.refused .full))))))
            ∧ (∀ d, d ≠ c → t.context d = s₀.context d)
            ∧ t.ms = s₀.ms ∧ t.flc = s₀.flc ∧ t.pe = s₀.pe ∧ t.crl = s₀.crl ∧ t.tb.time = s₀.tb.time
            ∧ t.pending = s₀.pending))

/-- A valve change, of any of the five fields of R64, reaches the contexts, in ascending index (R64 gives no order;
DESIGN CHOICE, log entry 25). A context that does not list the valve, and a FREE one, take nothing. A boundary valve
that becomes CLOSED closes its entry, and in EXECUTING, where it was the crew's to close, is closed by the context; the
last one takes the context to CLOSED_WAIT. In CLOSED_WAIT, HOLDING and CONFIRMED a boundary valve that becomes OPEN or
TRAVEL is a breach: the channel stops, the context is BREACHED, and ISOLATION_STATE names the valve. Elsewhere it
reopens an entry that was CLOSED; in EXECUTING a REMOTE one without a live order is requested again. In EXECUTING a
change to UNKNOWN fails an entry that is not CLOSED, and the context searches again; elsewhere it leaves the entry. In
PLANNED a usability change makes the plan stale: the context searches again under the next number. In RELEASING a valve
that becomes OPEN completes its reopen entry while no order of the context is live for it (R96, R129, R138, R140 to
R143, R149, R152; that a change of another field leaves the entries, and that CLOSED is judged by the entry's status:
log entry 9). -/
def Obligations.ContextsFollowTheirValves : Prop :=
  (∀ (s : State) (v : Nat) (cause : ValveCause) (f : ValveLive → ValveLive) (old : ValveLive),
    s.vou.valves.get v = some old → (s.changeValve v cause f).iu =
      (if old.position = (f old).position ∧ old.authority = (f old).authority ∧ old.limitFault = (f old).limitFault
          ∧ old.travelFault = (f old).travelFault ∧ old.inhibit = (f old).inhibit then s
        else (List.range 8).foldl (fun s c => s.contextValveChange v old (f old) c)
          ((s.setValve v (f old)).engineValveChange v old (f old))).iu)
  ∧ ∀ (s : State) (v c : Nat) (old new : ValveLive) (rec : ValveRec) (x : Context), c < 8 → x = s.context c →
    s.ms.valves.get v = some rec → (x.boundary.map (·.valve)).Nodup →
    ∀ (t : State) (usable : ValveLive → Option CloseAction), t = s.contextValveChange v old new c →
      (∀ y, usable y =
        if y.inhibit = true ∨ y.limitFault = true ∨ y.travelFault = true ∨ y.position = .unknown ∨ v ∈ x.barred
          ∨ x.remoteOnly = true ∧ y.position ≠ .closed ∧ ¬(rec.actuation = .remote ∧ y.authority = some .remote) then none
        else some (if y.position = .closed then .noneClosed
          else if rec.actuation = .remote ∧ y.authority = some .remote then .remote else .crew)) →
      let moved (p : Position) : Prop := old.position ≠ p ∧ new.position = p
      let opens : Prop := moved .opened ∨ moved .travel
      let mark (status : EntryStatus) : List BoundaryEntry :=
        x.boundary.map fun e => if e.valve = v then { e with status := status } else e
      let sealed : List BoundaryEntry := x.boundary.map fun e =>
        if e.valve = v then
          { e with status := .closed, byContext := e.byContext || (x.state == .executing && e.action == .crew) }
        else e
      (x.state = .free ∨ v ∉ x.boundary.map (·.valve) ∧ x.state ≠ .releasing → t = s)
      ∧ (old.position = new.position → x.state ≠ .planned → t = s)
      ∧ ((x.state = .closedWait ∨ x.state = .holding ∨ x.state = .confirmed) → v ∈ x.boundary.map (·.valve) → opens →
          t = ((s.stopChannel (60 + c)).setContext c { x with
              state := .breached, boundary := mark .openTodo
              unverified := if x.state = .confirmed then false else x.unverified
              operatorConfirmed := if x.state = .confirmed then false else x.operatorConfirmed }).post .safety
            (.isolationState c x.incident x.state .breached x.revision none (some v) none))
      ∧ (x.state ≠ .free → x.state ≠ .planned → x.state ≠ .executing → v ∈ x.boundary.map (·.valve) → moved .closed →
          t = s.setContext c { x with boundary := sealed })
      ∧ (x.state = .executing → v ∈ x.boundary.map (·.valve) → moved .closed →
          (t.context c).boundary = sealed
            ∧ (t.context c).state = if ∀ e ∈ sealed, e.status = .closed then .closedWait else .executing)
      ∧ (∀ e ∈ x.boundary, e.valve = v → opens →
          (x.state = .searching ∨ x.state = .failed ∨ x.state = .breached →
            t = if e.status = .closed then s.setContext c { x with boundary := mark .openTodo } else s)
          ∧ (x.state = .executing → e.status ≠ .closed → t = s)
          ∧ (x.state = .executing → e.status = .closed → (e.action ≠ .remote ∨ s.liveOrder v ≠ none) →
            t = s.setContext c { x with boundary := mark .openTodo })
          ∧ (x.state = .executing → e.status = .closed → e.action = .remote → s.liveOrder v = none →
            (s.crl.mode ≠ .supervise ∨ s.crl.pendingConfigure = true ∨ s.vou.hold = true →
              (t.context c).state = .planned ∧ ∃ e' ∈ (t.context c).boundary, e'.valve = v ∧ e'.status = .openTodo)
            ∧ (s.crl.mode = .supervise → s.crl.pendingConfigure = false → s.vou.hold = false →
              (s.requestCheck v .close = none →
                ((List.range 12).find? (fun k => (s.slot k).isNone) ≠ none →
                  (t.context c).state = .executing ∧ (t.context c).boundary = mark .ordered)
                ∧ ((List.range 12).find? (fun k => (s.slot k).isNone) = none →
                  (s.vou.waiting.length < 192 →
                    (t.context c).state = .executing ∧ (t.context c).boundary = mark .waitingSlot)
                  ∧ (192 ≤ s.vou.waiting.length →
                    (t.context c).state = .searching ∧ ∃ e' ∈ (t.context c).boundary, e'.valve = v ∧ e'.status = .failed)))
              ∧ (s.requestCheck v .close = some .doneAlready → (t.context c).boundary = mark .closed)
              ∧ ∀ code, s.requestCheck v .close = some (.refused code) →
                (t.context c).state = .searching ∧ ∃ e' ∈ (t.context c).boundary, e'.valve = v ∧ e'.status = .failed)))
      ∧ (∀ e ∈ x.boundary, e.valve = v → moved .unknown → x.state ≠ .planned →
          (x.state ≠ .executing ∨ e.status = .closed → t = s)
          ∧ (x.state = .executing → e.status ≠ .closed →
            (t.context c).state = .searching ∧ (t.context c).searchNumber = (x.searchNumber + 1) % 65536
              ∧ (t.context c).zone = x.zone
              ∧ ∃ e' ∈ (t.context c).boundary, e'.valve = v ∧ e'.status = .failed))
      ∧ (∀ e ∈ x.boundary, e.valve = v → x.state = .planned →
          ∀ entries : List BoundaryEntry,
            entries = (if moved .closed then mark .closed
              else if opens ∧ e.status = .closed then mark .openTodo else x.boundary) →
            (usable old = usable new → t = s.setContext c { x with boundary := entries })
            ∧ (usable old ≠ usable new → t.context c = { x with
                state := .searching, searchNumber := (x.searchNumber + 1) % 65536, boundary := entries }
              ∧ t.nq = (s.post .operations
                  (.isolationState c x.incident .planned .searching x.revision none none none)).nq
              ∧ (s.me.state = .idle → s.me.pendingTrace = false → s.me.queue = [] →
                  t.me.state = .searching (t.newSearch c))))
      ∧ (x.state = .releasing → opens → ∀ (entries : List BoundaryEntry) (reopen : List ReopenEntry),
          entries = (x.boundary.map fun e =>
            if e.valve = v ∧ e.status = .closed then { e with status := .openTodo } else e) →
          reopen = (x.reopen.map fun e => if e.valve = v then { e with status := .opened, lastOutcome := none } else e) →
          (moved .travel ∨ s.contextOrder c v ≠ none ∨ v ∉ x.reopen.map (·.valve) →
            t = s.setContext c { x with boundary := entries })
          ∧ (moved .opened → s.contextOrder c v = none → v ∈ x.reopen.map (·.valve) →
            ((∃ e ∈ reopen, e.status ≠ .opened) → t = s.setContext c { x with boundary := entries, reopen := reopen })
            ∧ ((∀ e ∈ reopen, e.status = .opened) → t.context c = .freeWith x.searchNumber)))
      ∧ (∀ d, d ≠ c → t.context d = s.context d)
      ∧ t.ms = s.ms ∧ t.flc = s.flc ∧ t.pe = s.pe ∧ t.crl = s.crl ∧ t.tb.time = s.tb.time ∧ t.pending = s.pending

/-- CLOSED_WAIT: the entry captures the VALID points of the zone with their filtered values and starts the channel with
the longest confirm time of the zone's tiers; a sample decays a point or drops it; the context is CONFIRMED once a set
that is not empty has wholly decayed. At the expiry an undecayed point gives HOLDING with the suspect list, and an
empty set gives CONFIRMED with UNVERIFIED (R58, R145 to R147). An expiry that is not due changes nothing (DESIGN
CHOICE, log entry 5). -/
def Obligations.ContextsWaitForTheDecay : Prop :=
  (∀ (s : State) (c : Nat) (x y : Context), c < 8 → x = s.context c → y = (s.enterClosedWait c).context c →
    y.state = .closedWait ∧ y.suspects = [] ∧ y.unverified = false ∧ y.operatorConfirmed = false
      ∧ (y.decaySet.map (·.point)).Pairwise (· < ·)
      ∧ (∀ d, d ∈ y.decaySet ↔ d.decayed = false ∧ (∃ g ∈ x.zone, d.point ∈ s.ms.pointsOf g)
          ∧ ∃ p, s.pe.points.get d.point = some p ∧ p.state = .valid ∧ p.filtered = some d.reference)
      ∧ ∃ longest, (s.enterClosedWait c).channel (60 + c) = .loaded longest .single true
          ∧ (∀ g ∈ x.zone, (s.tierOfSegment g).confirmTime ≤ longest)
          ∧ (x.zone ≠ [] → ∃ g ∈ x.zone, (s.tierOfSegment g).confirmTime = longest))
  ∧ (∀ (s : State) (c p f seg : Nat) (sub : RangeFault) (x : Context), c < 8 → x = s.context c →
    ((x.state ≠ .closedWait ∨ p ∉ x.decaySet.map (·.point)) →
      s.offerSample c p .valid (some f) seg = s ∧ s.offerSample c p (.fault sub) (some f) seg = s ∧ s.tellStale c p = s)
    ∧ (x.state = .closedWait → p ∈ x.decaySet.map (·.point) →
      let falls (reference : Nat) : Bool := decide ((f : Int) ≤ reference - (s.tierOfSegment seg).confirmDrop
        ∨ f ≤ (s.tierOfSegment seg).ventThreshold)
      let marked := x.decaySet.map fun d =>
        if d.point = p then { d with decayed := d.decayed || falls d.reference } else d
      let left := x.decaySet.filter fun d => d.point != p
      (∀ after t, (after = marked ∧ t = s.offerSample c p .valid (some f) seg)
          ∨ (after = left ∧ (t = s.offerSample c p (.fault sub) (some f) seg ∨ t = s.tellStale c p)) →
        (after ≠ [] → (∀ d ∈ after, d.decayed = true) →
          t.context c = { x with state := .confirmed, decaySet := after } ∧ (t.channel (60 + c)).running = false)
        ∧ ((after = [] ∨ ∃ d ∈ after, d.decayed = false) → t = s.setContext c { x with decaySet := after }))))
  ∧ ∀ (s : State) (c : Fin 8) (x : Context), x = s.context c →
    (60 + c.val ∉ s.tb.due → exec (.contextChannelExpiry c) s = .next s)
    ∧ (s.crl.held = false → 60 + c.val ∈ s.tb.due →
      let s' := s.withTb { s.tb with due := s.tb.due.erase (60 + c.val) }
      (x.state ≠ .closedWait ∨ (x.decaySet ≠ [] ∧ ∀ d ∈ x.decaySet, d.decayed = true) →
        exec (.contextChannelExpiry c) s = .next s')
      ∧ (x.state = .closedWait → x.decaySet = [] → exec (.contextChannelExpiry c) s
        = .next ((s'.setContext c { x with state := .confirmed, unverified := true }).post .operations
            (.isolationState c x.incident .closedWait .confirmed x.revision none none (some (true, x.operatorConfirmed)))))
      ∧ (x.state = .closedWait → (∃ d ∈ x.decaySet, d.decayed = false) →
        ∃ suspects : List Nat, exec (.contextChannelExpiry c) s
            = .next ((s'.setContext c { x with state := .holding, suspects := suspects }).post .safety
                (.isolationState c x.incident .closedWait .holding x.revision (some suspects) none none))
          ∧ suspects.Pairwise (· < ·)
          ∧ ∀ v, v ∈ suspects ↔ v ∈ x.boundary.map (·.valve) ∧ ∃ d ∈ x.decaySet, d.decayed = false
              ∧ ∃ rec, s.ms.points.get d.point = some rec ∧ v ∈ s.ms.adjacentOf rec.segment))

/-! ## Outages (chapter 8) -/

/-- RELIGHT_DONE returns a RESTORING segment to service and takes it out of its record, which closes when it empties;
DISCARD_OUTAGE frees a CLOSED record; each is refused as its rule says. An expiry of an ACTIVE record's reminder brings
its accumulator to the present time and posts OUTAGE_PROGRESS (R160, R166 to R169, R171). An expiry that is not due
changes nothing (DESIGN CHOICE, log entry 5). -/
def Obligations.OutageRequestsAreTaken : Prop :=
  (∀ (s s₀ : State) (tag : Byte) (g : Nat) (body : List Byte), g < 65536 → body = joinFields [2] [g] →
    s.Takes ⟨0x50#8, tag, body⟩ s₀ →
      (s₀.crl.mode = .configure → exec (.relightDone tag body) s = .next (s₀.answered 0x50#8 tag .mode .empty))
      ∧ (s₀.crl.mode ≠ .configure →
        (384 ≤ g → exec (.relightDone tag body) s = .next (s₀.answered 0x50#8 tag .range .empty))
        ∧ (g < 384 → s₀.ou.services.get g = none →
          exec (.relightDone tag body) s = .next (s₀.answered 0x50#8 tag .notFound .empty))
        ∧ ∀ x, g < 384 → s₀.ou.services.get g = some x →
          (x.state ≠ .restoring → exec (.relightDone tag body) s = .next (s₀.answered 0x50#8 tag .state .empty))
          ∧ ∀ n rec r, x.state = .restoring → x.outage = some n → n < 16 → s₀.ms.segments.get g = some rec →
            r = s₀.outage n → ∃ t : State,
              exec (.relightDone tag body) s = .next (t.answered 0x50#8 tag .ok
                (.relit n (r.offCount - rec.servicePoints) (r.relit + rec.servicePoints)))
              ∧ t.ou.services.get g = some { x with
                  cause := none, outage := none
                  state := if x.condition = .depressed then .depressed else .inService }
              ∧ (∀ h, h ≠ g → t.ou.services.get h = s₀.ou.services.get h)
              ∧ (∀ m, m ≠ n → t.outage m = s₀.outage m)
              ∧ (∀ left : List OutageEntry, left = r.segments.filter (fun e => e.segment != g) →
                  t.outage n = { r with
                    segments := left, offCount := r.offCount - rec.servicePoints, relit := r.relit + rec.servicePoints
                    criticalOff := r.criticalOff - rec.criticalConsumers
                    accumulator := min (r.accumulator
                      + r.offCount * (s₀.tb.time - r.lastUpdate.getD s₀.tb.time).toNat) 18446744073709551615
                    lastUpdate := some s₀.tb.time
                    state := if left = [] then .closed else r.state
                    closedAt := if left = [] then some s₀.tb.time else r.closedAt }
                  ∧ (left = [] → (t.channel (68 + n)).running = false ∧ t.ou.active = s₀.ou.active.filter (· != n))
                  ∧ (left ≠ [] → t.tb = s₀.tb ∧ t.ou.active = s₀.ou.active))
              ∧ t.ms = s₀.ms ∧ t.flc = s₀.flc ∧ t.pe = s₀.pe ∧ t.vou = s₀.vou ∧ t.me = s₀.me ∧ t.it = s₀.it ∧ t.iu = s₀.iu
              ∧ t.crl = s₀.crl ∧ t.tb.time = s₀.tb.time ∧ t.pending = s₀.pending))
  ∧ (∀ (s s₀ : State) (tag : Byte) (n : Nat), n < 256 → s.Takes ⟨0x52#8, tag, joinFields [1] [n]⟩ s₀ →
      exec (.discardOutage tag (joinFields [1] [n])) s = .next
        (if 16 ≤ n then s₀.answered 0x52#8 tag .range .empty
        else if (s₀.outage n).state = .free then s₀.answered 0x52#8 tag .notFound .empty
        else if (s₀.outage n).state = .active then s₀.answered 0x52#8 tag .state .empty
        else (s₀.setOutage n .free).answered 0x52#8 tag .ok .empty))
  ∧ ∀ (s : State) (n : Fin 16) (r : OutageRecord), r = s.outage n →
    (68 + n.val ∉ s.tb.due → exec (.outageChannelExpiry n) s = .next s)
    ∧ (s.crl.held = false → 68 + n.val ∈ s.tb.due →
      let s' := s.withTb { s.tb with due := s.tb.due.erase (68 + n.val) }
      (r.state ≠ .active → exec (.outageChannelExpiry n) s = .next s')
      ∧ (r.state = .active → ∀ total, total = min (r.accumulator
          + r.offCount * (s.tb.time - r.lastUpdate.getD s.tb.time).toNat) 18446744073709551615 →
        exec (.outageChannelExpiry n) s
          = .next ((s'.setOutage n { r with accumulator := total, lastUpdate := some s.tb.time }).post .service
              (.outageProgress n r.segments.length
                ((r.segments.filter fun e => (s.ou.services.get e.segment).map (·.state) == some .restoring).length)
                r.offCount r.criticalOff r.relit r.noGas (min (total / 600) 4294967295)))))

/-- Every step keeps the accounts of the outage records: affected equals relit plus off count, off count and critical
consumers off are the sums over the segments listed, no segment is listed twice, and a segment names the one record that
lists it exactly while it is OFF_SUPPLY or RESTORING (R157, R158, R160 to R166). -/
def Obligations.OutagesBalance : Prop := ∀ s t : State, s.OutagesSound → step s = .next t → t.OutagesSound

/-! ## Reading live records -/

/-- READ_ORDERS, READ_INCIDENT, READ_CONTEXT, READ_OUTAGE and STATION_STATS report the live records; they change
nothing but the accumulator of an ACTIVE outage record and, with the clear flag, an outstation's statistics (R37, R86,
R125, R154, R172). STATION_STATS with a clear byte above 1 is refused with RANGE (DEDUCED, log entry 10). READ_INCIDENT
and READ_CONTEXT report the state of the channel with its mode, prescale, reload and remaining time (R174; that these
two replies carry all of them: DEDUCED, log entry 24). -/
def Obligations.LiveRecordsAreRead : Prop :=
  ∀ (s s₀ : State) (tag : Byte),
    (s.Takes ⟨0x48#8, tag, []⟩ s₀ → exec (.readOrders tag []) s = .next (s₀.answered 0x48#8 tag .ok (.orders
      ((List.range 12).map fun k => ⟨s₀.slot k,
        if (s₀.slot k).map (·.stage) = some .moving then
          some ((s₀.channel (48 + k)).remaining, (s₀.channel (48 + k)).gateOpen)
        else none⟩)
      s₀.vou.hold s₀.vou.waiting.length
      ((List.range 8).map fun c => ⟨(s₀.vou.waiting.filter fun e => e.context == c).length,
        (s₀.vou.waiting.find? fun e => e.context == c).map (·.valve)⟩))))
    ∧ (∀ serial, serial < 65536 → s.Takes ⟨0x25#8, tag, joinFields [2] [serial]⟩ s₀ →
      exec (.readIncident tag (joinFields [2] [serial])) s = .next
        (if serial = 0 then s₀.answered 0x25#8 tag .range .empty
        else match s₀.it.incidents.find? (fun i => i.serial == serial) with
          | none => s₀.answered 0x25#8 tag .notFound .empty
          | some i => s₀.answered 0x25#8 tag .ok (.incident i
              ⟨(s₀.channel i.slot).running, (s₀.channel i.slot).mode, (s₀.channel i.slot).prescale,
                (s₀.channel i.slot).reload, (s₀.channel i.slot).remaining⟩)))
    ∧ (∀ c, c < 256 → s.Takes ⟨0x36#8, tag, joinFields [1] [c]⟩ s₀ →
      exec (.readContext tag (joinFields [1] [c])) s = .next
        (if 8 ≤ c then s₀.answered 0x36#8 tag .range .empty
        else s₀.answered 0x36#8 tag .ok (.contextRecord (s₀.context c)
          ((s₀.context c).decaySet.map fun d => (s₀.pe.points.get d.point).bind (·.filtered))
          ⟨(s₀.channel (60 + c)).running, (s₀.channel (60 + c)).mode, (s₀.channel (60 + c)).prescale,
            (s₀.channel (60 + c)).reload, (s₀.channel (60 + c)).remaining⟩)))
    ∧ (∀ n (r : OutageRecord), n < 256 → r = s₀.outage n → s.Takes ⟨0x51#8, tag, joinFields [1] [n]⟩ s₀ →
      let now := { r with
        accumulator := min (r.accumulator + r.offCount * (s₀.tb.time - r.lastUpdate.getD s₀.tb.time).toNat)
          18446744073709551615
        lastUpdate := some s₀.tb.time }
      let states := r.segments.map fun e => (s₀.ou.services.get e.segment).map (·.state)
      exec (.readOutage tag (joinFields [1] [n])) s = .next
        (if 16 ≤ n then s₀.answered 0x51#8 tag .range .empty
        else if r.state = .free then s₀.answered 0x51#8 tag .notFound .empty
        else if r.state = .active then (s₀.setOutage n now).answered 0x51#8 tag .ok
          (.outage now states (min (now.accumulator / 600) 4294967295) (s₀.channel (68 + n)).remaining)
        else s₀.answered 0x51#8 tag .ok (.outage r states (min (r.accumulator / 600) 4294967295) none)))
    ∧ ∀ st clear, st < 256 → clear < 256 → s.Takes ⟨0x1C#8, tag, joinFields [1, 1] [st, clear]⟩ s₀ →
      exec (.stationStats tag (joinFields [1, 1] [st, clear])) s = .next
        (if 64 ≤ st ∨ 1 < clear then s₀.answered 0x1C#8 tag .range .empty
        else if s₀.ms.stations.get st = none then s₀.answered 0x1C#8 tag .notFound .empty
        else (if clear = 1 then s₀.setStation st { s₀.station st with stats := .zero } else s₀).answered 0x1C#8 tag .ok
          (.statistics (s₀.station st).stats))
end

