-- ==== Sys2Proof/Laws/State.lean ====
section
/-! SUPPORT. Reading each field of the state after each update of a block, and after a posting. -/
namespace Sys2Proof.Machine

variable (s : State)

/-! ### withPending -/

@[simp] theorem State.withPending_pending (x : List Instr) : (s.withPending x).pending = x := rfl
@[simp] theorem State.withPending_ms (x : List Instr) : (s.withPending x).ms = s.ms := rfl
@[simp] theorem State.withPending_flc (x : List Instr) : (s.withPending x).flc = s.flc := rfl
@[simp] theorem State.withPending_pe (x : List Instr) : (s.withPending x).pe = s.pe := rfl
@[simp] theorem State.withPending_vou (x : List Instr) : (s.withPending x).vou = s.vou := rfl
@[simp] theorem State.withPending_me (x : List Instr) : (s.withPending x).me = s.me := rfl
@[simp] theorem State.withPending_it (x : List Instr) : (s.withPending x).it = s.it := rfl
@[simp] theorem State.withPending_iu (x : List Instr) : (s.withPending x).iu = s.iu := rfl
@[simp] theorem State.withPending_ou (x : List Instr) : (s.withPending x).ou = s.ou := rfl
@[simp] theorem State.withPending_tb (x : List Instr) : (s.withPending x).tb = s.tb := rfl
@[simp] theorem State.withPending_nq (x : List Instr) : (s.withPending x).nq = s.nq := rfl
@[simp] theorem State.withPending_crl (x : List Instr) : (s.withPending x).crl = s.crl := rfl
@[simp] theorem State.withPending_withPending (x y : List Instr) : (s.withPending x).withPending y = s.withPending y := rfl
@[simp] theorem State.withPending_self : s.withPending s.pending = s := rfl

/-! ### withMs -/

@[simp] theorem State.withMs_pending (x : ModelStore) : (s.withMs x).pending = s.pending := rfl
@[simp] theorem State.withMs_ms (x : ModelStore) : (s.withMs x).ms = x := rfl
@[simp] theorem State.withMs_flc (x : ModelStore) : (s.withMs x).flc = s.flc := rfl
@[simp] theorem State.withMs_pe (x : ModelStore) : (s.withMs x).pe = s.pe := rfl
@[simp] theorem State.withMs_vou (x : ModelStore) : (s.withMs x).vou = s.vou := rfl
@[simp] theorem State.withMs_me (x : ModelStore) : (s.withMs x).me = s.me := rfl
@[simp] theorem State.withMs_it (x : ModelStore) : (s.withMs x).it = s.it := rfl
@[simp] theorem State.withMs_iu (x : ModelStore) : (s.withMs x).iu = s.iu := rfl
@[simp] theorem State.withMs_ou (x : ModelStore) : (s.withMs x).ou = s.ou := rfl
@[simp] theorem State.withMs_tb (x : ModelStore) : (s.withMs x).tb = s.tb := rfl
@[simp] theorem State.withMs_nq (x : ModelStore) : (s.withMs x).nq = s.nq := rfl
@[simp] theorem State.withMs_crl (x : ModelStore) : (s.withMs x).crl = s.crl := rfl
@[simp] theorem State.withMs_withMs (x y : ModelStore) : (s.withMs x).withMs y = s.withMs y := rfl
@[simp] theorem State.withMs_self : s.withMs s.ms = s := rfl

/-! ### withFlc -/

@[simp] theorem State.withFlc_pending (x : FieldLines) : (s.withFlc x).pending = s.pending := rfl
@[simp] theorem State.withFlc_ms (x : FieldLines) : (s.withFlc x).ms = s.ms := rfl
@[simp] theorem State.withFlc_flc (x : FieldLines) : (s.withFlc x).flc = x := rfl
@[simp] theorem State.withFlc_pe (x : FieldLines) : (s.withFlc x).pe = s.pe := rfl
@[simp] theorem State.withFlc_vou (x : FieldLines) : (s.withFlc x).vou = s.vou := rfl
@[simp] theorem State.withFlc_me (x : FieldLines) : (s.withFlc x).me = s.me := rfl
@[simp] theorem State.withFlc_it (x : FieldLines) : (s.withFlc x).it = s.it := rfl
@[simp] theorem State.withFlc_iu (x : FieldLines) : (s.withFlc x).iu = s.iu := rfl
@[simp] theorem State.withFlc_ou (x : FieldLines) : (s.withFlc x).ou = s.ou := rfl
@[simp] theorem State.withFlc_tb (x : FieldLines) : (s.withFlc x).tb = s.tb := rfl
@[simp] theorem State.withFlc_nq (x : FieldLines) : (s.withFlc x).nq = s.nq := rfl
@[simp] theorem State.withFlc_crl (x : FieldLines) : (s.withFlc x).crl = s.crl := rfl
@[simp] theorem State.withFlc_withFlc (x y : FieldLines) : (s.withFlc x).withFlc y = s.withFlc y := rfl
@[simp] theorem State.withFlc_self : s.withFlc s.flc = s := rfl

/-! ### withPe -/

@[simp] theorem State.withPe_pending (x : PressureUnit) : (s.withPe x).pending = s.pending := rfl
@[simp] theorem State.withPe_ms (x : PressureUnit) : (s.withPe x).ms = s.ms := rfl
@[simp] theorem State.withPe_flc (x : PressureUnit) : (s.withPe x).flc = s.flc := rfl
@[simp] theorem State.withPe_pe (x : PressureUnit) : (s.withPe x).pe = x := rfl
@[simp] theorem State.withPe_vou (x : PressureUnit) : (s.withPe x).vou = s.vou := rfl
@[simp] theorem State.withPe_me (x : PressureUnit) : (s.withPe x).me = s.me := rfl
@[simp] theorem State.withPe_it (x : PressureUnit) : (s.withPe x).it = s.it := rfl
@[simp] theorem State.withPe_iu (x : PressureUnit) : (s.withPe x).iu = s.iu := rfl
@[simp] theorem State.withPe_ou (x : PressureUnit) : (s.withPe x).ou = s.ou := rfl
@[simp] theorem State.withPe_tb (x : PressureUnit) : (s.withPe x).tb = s.tb := rfl
@[simp] theorem State.withPe_nq (x : PressureUnit) : (s.withPe x).nq = s.nq := rfl
@[simp] theorem State.withPe_crl (x : PressureUnit) : (s.withPe x).crl = s.crl := rfl
@[simp] theorem State.withPe_withPe (x y : PressureUnit) : (s.withPe x).withPe y = s.withPe y := rfl
@[simp] theorem State.withPe_self : s.withPe s.pe = s := rfl

/-! ### withVou -/

@[simp] theorem State.withVou_pending (x : OrderUnit) : (s.withVou x).pending = s.pending := rfl
@[simp] theorem State.withVou_ms (x : OrderUnit) : (s.withVou x).ms = s.ms := rfl
@[simp] theorem State.withVou_flc (x : OrderUnit) : (s.withVou x).flc = s.flc := rfl
@[simp] theorem State.withVou_pe (x : OrderUnit) : (s.withVou x).pe = s.pe := rfl
@[simp] theorem State.withVou_vou (x : OrderUnit) : (s.withVou x).vou = x := rfl
@[simp] theorem State.withVou_me (x : OrderUnit) : (s.withVou x).me = s.me := rfl
@[simp] theorem State.withVou_it (x : OrderUnit) : (s.withVou x).it = s.it := rfl
@[simp] theorem State.withVou_iu (x : OrderUnit) : (s.withVou x).iu = s.iu := rfl
@[simp] theorem State.withVou_ou (x : OrderUnit) : (s.withVou x).ou = s.ou := rfl
@[simp] theorem State.withVou_tb (x : OrderUnit) : (s.withVou x).tb = s.tb := rfl
@[simp] theorem State.withVou_nq (x : OrderUnit) : (s.withVou x).nq = s.nq := rfl
@[simp] theorem State.withVou_crl (x : OrderUnit) : (s.withVou x).crl = s.crl := rfl
@[simp] theorem State.withVou_withVou (x y : OrderUnit) : (s.withVou x).withVou y = s.withVou y := rfl
@[simp] theorem State.withVou_self : s.withVou s.vou = s := rfl

/-! ### withMe -/

@[simp] theorem State.withMe_pending (x : Engine) : (s.withMe x).pending = s.pending := rfl
@[simp] theorem State.withMe_ms (x : Engine) : (s.withMe x).ms = s.ms := rfl
@[simp] theorem State.withMe_flc (x : Engine) : (s.withMe x).flc = s.flc := rfl
@[simp] theorem State.withMe_pe (x : Engine) : (s.withMe x).pe = s.pe := rfl
@[simp] theorem State.withMe_vou (x : Engine) : (s.withMe x).vou = s.vou := rfl
@[simp] theorem State.withMe_me (x : Engine) : (s.withMe x).me = x := rfl
@[simp] theorem State.withMe_it (x : Engine) : (s.withMe x).it = s.it := rfl
@[simp] theorem State.withMe_iu (x : Engine) : (s.withMe x).iu = s.iu := rfl
@[simp] theorem State.withMe_ou (x : Engine) : (s.withMe x).ou = s.ou := rfl
@[simp] theorem State.withMe_tb (x : Engine) : (s.withMe x).tb = s.tb := rfl
@[simp] theorem State.withMe_nq (x : Engine) : (s.withMe x).nq = s.nq := rfl
@[simp] theorem State.withMe_crl (x : Engine) : (s.withMe x).crl = s.crl := rfl
@[simp] theorem State.withMe_withMe (x y : Engine) : (s.withMe x).withMe y = s.withMe y := rfl
@[simp] theorem State.withMe_self : s.withMe s.me = s := rfl

/-! ### withIt -/

@[simp] theorem State.withIt_pending (x : IncidentTable) : (s.withIt x).pending = s.pending := rfl
@[simp] theorem State.withIt_ms (x : IncidentTable) : (s.withIt x).ms = s.ms := rfl
@[simp] theorem State.withIt_flc (x : IncidentTable) : (s.withIt x).flc = s.flc := rfl
@[simp] theorem State.withIt_pe (x : IncidentTable) : (s.withIt x).pe = s.pe := rfl
@[simp] theorem State.withIt_vou (x : IncidentTable) : (s.withIt x).vou = s.vou := rfl
@[simp] theorem State.withIt_me (x : IncidentTable) : (s.withIt x).me = s.me := rfl
@[simp] theorem State.withIt_it (x : IncidentTable) : (s.withIt x).it = x := rfl
@[simp] theorem State.withIt_iu (x : IncidentTable) : (s.withIt x).iu = s.iu := rfl
@[simp] theorem State.withIt_ou (x : IncidentTable) : (s.withIt x).ou = s.ou := rfl
@[simp] theorem State.withIt_tb (x : IncidentTable) : (s.withIt x).tb = s.tb := rfl
@[simp] theorem State.withIt_nq (x : IncidentTable) : (s.withIt x).nq = s.nq := rfl
@[simp] theorem State.withIt_crl (x : IncidentTable) : (s.withIt x).crl = s.crl := rfl
@[simp] theorem State.withIt_withIt (x y : IncidentTable) : (s.withIt x).withIt y = s.withIt y := rfl
@[simp] theorem State.withIt_self : s.withIt s.it = s := rfl

/-! ### withIu -/

@[simp] theorem State.withIu_pending (x : IsolationUnit) : (s.withIu x).pending = s.pending := rfl
@[simp] theorem State.withIu_ms (x : IsolationUnit) : (s.withIu x).ms = s.ms := rfl
@[simp] theorem State.withIu_flc (x : IsolationUnit) : (s.withIu x).flc = s.flc := rfl
@[simp] theorem State.withIu_pe (x : IsolationUnit) : (s.withIu x).pe = s.pe := rfl
@[simp] theorem State.withIu_vou (x : IsolationUnit) : (s.withIu x).vou = s.vou := rfl
@[simp] theorem State.withIu_me (x : IsolationUnit) : (s.withIu x).me = s.me := rfl
@[simp] theorem State.withIu_it (x : IsolationUnit) : (s.withIu x).it = s.it := rfl
@[simp] theorem State.withIu_iu (x : IsolationUnit) : (s.withIu x).iu = x := rfl
@[simp] theorem State.withIu_ou (x : IsolationUnit) : (s.withIu x).ou = s.ou := rfl
@[simp] theorem State.withIu_tb (x : IsolationUnit) : (s.withIu x).tb = s.tb := rfl
@[simp] theorem State.withIu_nq (x : IsolationUnit) : (s.withIu x).nq = s.nq := rfl
@[simp] theorem State.withIu_crl (x : IsolationUnit) : (s.withIu x).crl = s.crl := rfl
@[simp] theorem State.withIu_withIu (x y : IsolationUnit) : (s.withIu x).withIu y = s.withIu y := rfl
@[simp] theorem State.withIu_self : s.withIu s.iu = s := rfl

/-! ### withOu -/

@[simp] theorem State.withOu_pending (x : OutageUnit) : (s.withOu x).pending = s.pending := rfl
@[simp] theorem State.withOu_ms (x : OutageUnit) : (s.withOu x).ms = s.ms := rfl
@[simp] theorem State.withOu_flc (x : OutageUnit) : (s.withOu x).flc = s.flc := rfl
@[simp] theorem State.withOu_pe (x : OutageUnit) : (s.withOu x).pe = s.pe := rfl
@[simp] theorem State.withOu_vou (x : OutageUnit) : (s.withOu x).vou = s.vou := rfl
@[simp] theorem State.withOu_me (x : OutageUnit) : (s.withOu x).me = s.me := rfl
@[simp] theorem State.withOu_it (x : OutageUnit) : (s.withOu x).it = s.it := rfl
@[simp] theorem State.withOu_iu (x : OutageUnit) : (s.withOu x).iu = s.iu := rfl
@[simp] theorem State.withOu_ou (x : OutageUnit) : (s.withOu x).ou = x := rfl
@[simp] theorem State.withOu_tb (x : OutageUnit) : (s.withOu x).tb = s.tb := rfl
@[simp] theorem State.withOu_nq (x : OutageUnit) : (s.withOu x).nq = s.nq := rfl
@[simp] theorem State.withOu_crl (x : OutageUnit) : (s.withOu x).crl = s.crl := rfl
@[simp] theorem State.withOu_withOu (x y : OutageUnit) : (s.withOu x).withOu y = s.withOu y := rfl
@[simp] theorem State.withOu_self : s.withOu s.ou = s := rfl

/-! ### withTb -/

@[simp] theorem State.withTb_pending (x : TimerBank) : (s.withTb x).pending = s.pending := rfl
@[simp] theorem State.withTb_ms (x : TimerBank) : (s.withTb x).ms = s.ms := rfl
@[simp] theorem State.withTb_flc (x : TimerBank) : (s.withTb x).flc = s.flc := rfl
@[simp] theorem State.withTb_pe (x : TimerBank) : (s.withTb x).pe = s.pe := rfl
@[simp] theorem State.withTb_vou (x : TimerBank) : (s.withTb x).vou = s.vou := rfl
@[simp] theorem State.withTb_me (x : TimerBank) : (s.withTb x).me = s.me := rfl
@[simp] theorem State.withTb_it (x : TimerBank) : (s.withTb x).it = s.it := rfl
@[simp] theorem State.withTb_iu (x : TimerBank) : (s.withTb x).iu = s.iu := rfl
@[simp] theorem State.withTb_ou (x : TimerBank) : (s.withTb x).ou = s.ou := rfl
@[simp] theorem State.withTb_tb (x : TimerBank) : (s.withTb x).tb = x := rfl
@[simp] theorem State.withTb_nq (x : TimerBank) : (s.withTb x).nq = s.nq := rfl
@[simp] theorem State.withTb_crl (x : TimerBank) : (s.withTb x).crl = s.crl := rfl
@[simp] theorem State.withTb_withTb (x y : TimerBank) : (s.withTb x).withTb y = s.withTb y := rfl
@[simp] theorem State.withTb_self : s.withTb s.tb = s := rfl

/-! ### withNq -/

@[simp] theorem State.withNq_pending (x : NoticeQueues) : (s.withNq x).pending = s.pending := rfl
@[simp] theorem State.withNq_ms (x : NoticeQueues) : (s.withNq x).ms = s.ms := rfl
@[simp] theorem State.withNq_flc (x : NoticeQueues) : (s.withNq x).flc = s.flc := rfl
@[simp] theorem State.withNq_pe (x : NoticeQueues) : (s.withNq x).pe = s.pe := rfl
@[simp] theorem State.withNq_vou (x : NoticeQueues) : (s.withNq x).vou = s.vou := rfl
@[simp] theorem State.withNq_me (x : NoticeQueues) : (s.withNq x).me = s.me := rfl
@[simp] theorem State.withNq_it (x : NoticeQueues) : (s.withNq x).it = s.it := rfl
@[simp] theorem State.withNq_iu (x : NoticeQueues) : (s.withNq x).iu = s.iu := rfl
@[simp] theorem State.withNq_ou (x : NoticeQueues) : (s.withNq x).ou = s.ou := rfl
@[simp] theorem State.withNq_tb (x : NoticeQueues) : (s.withNq x).tb = s.tb := rfl
@[simp] theorem State.withNq_nq (x : NoticeQueues) : (s.withNq x).nq = x := rfl
@[simp] theorem State.withNq_crl (x : NoticeQueues) : (s.withNq x).crl = s.crl := rfl
@[simp] theorem State.withNq_withNq (x y : NoticeQueues) : (s.withNq x).withNq y = s.withNq y := rfl
@[simp] theorem State.withNq_self : s.withNq s.nq = s := rfl

/-! ### withCrl -/

@[simp] theorem State.withCrl_pending (x : Link) : (s.withCrl x).pending = s.pending := rfl
@[simp] theorem State.withCrl_ms (x : Link) : (s.withCrl x).ms = s.ms := rfl
@[simp] theorem State.withCrl_flc (x : Link) : (s.withCrl x).flc = s.flc := rfl
@[simp] theorem State.withCrl_pe (x : Link) : (s.withCrl x).pe = s.pe := rfl
@[simp] theorem State.withCrl_vou (x : Link) : (s.withCrl x).vou = s.vou := rfl
@[simp] theorem State.withCrl_me (x : Link) : (s.withCrl x).me = s.me := rfl
@[simp] theorem State.withCrl_it (x : Link) : (s.withCrl x).it = s.it := rfl
@[simp] theorem State.withCrl_iu (x : Link) : (s.withCrl x).iu = s.iu := rfl
@[simp] theorem State.withCrl_ou (x : Link) : (s.withCrl x).ou = s.ou := rfl
@[simp] theorem State.withCrl_tb (x : Link) : (s.withCrl x).tb = s.tb := rfl
@[simp] theorem State.withCrl_nq (x : Link) : (s.withCrl x).nq = s.nq := rfl
@[simp] theorem State.withCrl_crl (x : Link) : (s.withCrl x).crl = x := rfl
@[simp] theorem State.withCrl_withCrl (x y : Link) : (s.withCrl x).withCrl y = s.withCrl y := rfl
@[simp] theorem State.withCrl_self : s.withCrl s.crl = s := rfl

/-! ### Posting a notice -/

@[simp] theorem State.post_pending (c : NoticeClass) (b : NoticeBody) : (s.post c b).pending = s.pending := rfl
@[simp] theorem State.post_ms (c : NoticeClass) (b : NoticeBody) : (s.post c b).ms = s.ms := rfl
@[simp] theorem State.post_flc (c : NoticeClass) (b : NoticeBody) : (s.post c b).flc = s.flc := rfl
@[simp] theorem State.post_pe (c : NoticeClass) (b : NoticeBody) : (s.post c b).pe = s.pe := rfl
@[simp] theorem State.post_vou (c : NoticeClass) (b : NoticeBody) : (s.post c b).vou = s.vou := rfl
@[simp] theorem State.post_me (c : NoticeClass) (b : NoticeBody) : (s.post c b).me = s.me := rfl
@[simp] theorem State.post_it (c : NoticeClass) (b : NoticeBody) : (s.post c b).it = s.it := rfl
@[simp] theorem State.post_iu (c : NoticeClass) (b : NoticeBody) : (s.post c b).iu = s.iu := rfl
@[simp] theorem State.post_ou (c : NoticeClass) (b : NoticeBody) : (s.post c b).ou = s.ou := rfl
@[simp] theorem State.post_tb (c : NoticeClass) (b : NoticeBody) : (s.post c b).tb = s.tb := rfl
@[simp] theorem State.post_crl (c : NoticeClass) (b : NoticeBody) : (s.post c b).crl = s.crl := rfl
@[simp] theorem State.post_nq (c : NoticeClass) (b : NoticeBody) : (s.post c b).nq = s.nq.post c s.tb.time b := rfl

/-! ### Writing one record of a block -/

@[simp] theorem State.setStation_pending (n : Nat) (x : StationLive) : (s.setStation n x).pending = s.pending := rfl
@[simp] theorem State.setStation_ms (n : Nat) (x : StationLive) : (s.setStation n x).ms = s.ms := rfl
@[simp] theorem State.setStation_pe (n : Nat) (x : StationLive) : (s.setStation n x).pe = s.pe := rfl
@[simp] theorem State.setStation_vou (n : Nat) (x : StationLive) : (s.setStation n x).vou = s.vou := rfl
@[simp] theorem State.setStation_me (n : Nat) (x : StationLive) : (s.setStation n x).me = s.me := rfl
@[simp] theorem State.setStation_it (n : Nat) (x : StationLive) : (s.setStation n x).it = s.it := rfl
@[simp] theorem State.setStation_iu (n : Nat) (x : StationLive) : (s.setStation n x).iu = s.iu := rfl
@[simp] theorem State.setStation_ou (n : Nat) (x : StationLive) : (s.setStation n x).ou = s.ou := rfl
@[simp] theorem State.setStation_tb (n : Nat) (x : StationLive) : (s.setStation n x).tb = s.tb := rfl
@[simp] theorem State.setStation_nq (n : Nat) (x : StationLive) : (s.setStation n x).nq = s.nq := rfl
@[simp] theorem State.setStation_crl (n : Nat) (x : StationLive) : (s.setStation n x).crl = s.crl := rfl

@[simp] theorem State.setController_pending (n : Nat) (x : Controller) : (s.setController n x).pending = s.pending := rfl
@[simp] theorem State.setController_ms (n : Nat) (x : Controller) : (s.setController n x).ms = s.ms := rfl
@[simp] theorem State.setController_pe (n : Nat) (x : Controller) : (s.setController n x).pe = s.pe := rfl
@[simp] theorem State.setController_vou (n : Nat) (x : Controller) : (s.setController n x).vou = s.vou := rfl
@[simp] theorem State.setController_me (n : Nat) (x : Controller) : (s.setController n x).me = s.me := rfl
@[simp] theorem State.setController_it (n : Nat) (x : Controller) : (s.setController n x).it = s.it := rfl
@[simp] theorem State.setController_iu (n : Nat) (x : Controller) : (s.setController n x).iu = s.iu := rfl
@[simp] theorem State.setController_ou (n : Nat) (x : Controller) : (s.setController n x).ou = s.ou := rfl
@[simp] theorem State.setController_tb (n : Nat) (x : Controller) : (s.setController n x).tb = s.tb := rfl
@[simp] theorem State.setController_nq (n : Nat) (x : Controller) : (s.setController n x).nq = s.nq := rfl
@[simp] theorem State.setController_crl (n : Nat) (x : Controller) : (s.setController n x).crl = s.crl := rfl

@[simp] theorem State.setSlot_pending (k : Nat) (o : Option Order) : (s.setSlot k o).pending = s.pending := rfl
@[simp] theorem State.setSlot_ms (k : Nat) (o : Option Order) : (s.setSlot k o).ms = s.ms := rfl
@[simp] theorem State.setSlot_flc (k : Nat) (o : Option Order) : (s.setSlot k o).flc = s.flc := rfl
@[simp] theorem State.setSlot_pe (k : Nat) (o : Option Order) : (s.setSlot k o).pe = s.pe := rfl
@[simp] theorem State.setSlot_me (k : Nat) (o : Option Order) : (s.setSlot k o).me = s.me := rfl
@[simp] theorem State.setSlot_it (k : Nat) (o : Option Order) : (s.setSlot k o).it = s.it := rfl
@[simp] theorem State.setSlot_iu (k : Nat) (o : Option Order) : (s.setSlot k o).iu = s.iu := rfl
@[simp] theorem State.setSlot_ou (k : Nat) (o : Option Order) : (s.setSlot k o).ou = s.ou := rfl
@[simp] theorem State.setSlot_tb (k : Nat) (o : Option Order) : (s.setSlot k o).tb = s.tb := rfl
@[simp] theorem State.setSlot_nq (k : Nat) (o : Option Order) : (s.setSlot k o).nq = s.nq := rfl
@[simp] theorem State.setSlot_crl (k : Nat) (o : Option Order) : (s.setSlot k o).crl = s.crl := rfl

@[simp] theorem State.setValve_pending (v : Nat) (x : ValveLive) : (s.setValve v x).pending = s.pending := rfl
@[simp] theorem State.setValve_ms (v : Nat) (x : ValveLive) : (s.setValve v x).ms = s.ms := rfl
@[simp] theorem State.setValve_flc (v : Nat) (x : ValveLive) : (s.setValve v x).flc = s.flc := rfl
@[simp] theorem State.setValve_pe (v : Nat) (x : ValveLive) : (s.setValve v x).pe = s.pe := rfl
@[simp] theorem State.setValve_me (v : Nat) (x : ValveLive) : (s.setValve v x).me = s.me := rfl
@[simp] theorem State.setValve_it (v : Nat) (x : ValveLive) : (s.setValve v x).it = s.it := rfl
@[simp] theorem State.setValve_iu (v : Nat) (x : ValveLive) : (s.setValve v x).iu = s.iu := rfl
@[simp] theorem State.setValve_ou (v : Nat) (x : ValveLive) : (s.setValve v x).ou = s.ou := rfl
@[simp] theorem State.setValve_tb (v : Nat) (x : ValveLive) : (s.setValve v x).tb = s.tb := rfl
@[simp] theorem State.setValve_nq (v : Nat) (x : ValveLive) : (s.setValve v x).nq = s.nq := rfl
@[simp] theorem State.setValve_crl (v : Nat) (x : ValveLive) : (s.setValve v x).crl = s.crl := rfl

@[simp] theorem State.setValveSlot_pending (v : Nat) (k : Option Nat) : (s.setValveSlot v k).pending = s.pending := rfl
@[simp] theorem State.setValveSlot_ms (v : Nat) (k : Option Nat) : (s.setValveSlot v k).ms = s.ms := rfl
@[simp] theorem State.setValveSlot_flc (v : Nat) (k : Option Nat) : (s.setValveSlot v k).flc = s.flc := rfl
@[simp] theorem State.setValveSlot_pe (v : Nat) (k : Option Nat) : (s.setValveSlot v k).pe = s.pe := rfl
@[simp] theorem State.setValveSlot_me (v : Nat) (k : Option Nat) : (s.setValveSlot v k).me = s.me := rfl
@[simp] theorem State.setValveSlot_it (v : Nat) (k : Option Nat) : (s.setValveSlot v k).it = s.it := rfl
@[simp] theorem State.setValveSlot_iu (v : Nat) (k : Option Nat) : (s.setValveSlot v k).iu = s.iu := rfl
@[simp] theorem State.setValveSlot_ou (v : Nat) (k : Option Nat) : (s.setValveSlot v k).ou = s.ou := rfl
@[simp] theorem State.setValveSlot_tb (v : Nat) (k : Option Nat) : (s.setValveSlot v k).tb = s.tb := rfl
@[simp] theorem State.setValveSlot_nq (v : Nat) (k : Option Nat) : (s.setValveSlot v k).nq = s.nq := rfl
@[simp] theorem State.setValveSlot_crl (v : Nat) (k : Option Nat) : (s.setValveSlot v k).crl = s.crl := rfl

@[simp] theorem State.setWaiting_pending (l : List WaitEntry) : (s.setWaiting l).pending = s.pending := rfl
@[simp] theorem State.setWaiting_ms (l : List WaitEntry) : (s.setWaiting l).ms = s.ms := rfl
@[simp] theorem State.setWaiting_flc (l : List WaitEntry) : (s.setWaiting l).flc = s.flc := rfl
@[simp] theorem State.setWaiting_pe (l : List WaitEntry) : (s.setWaiting l).pe = s.pe := rfl
@[simp] theorem State.setWaiting_me (l : List WaitEntry) : (s.setWaiting l).me = s.me := rfl
@[simp] theorem State.setWaiting_it (l : List WaitEntry) : (s.setWaiting l).it = s.it := rfl
@[simp] theorem State.setWaiting_iu (l : List WaitEntry) : (s.setWaiting l).iu = s.iu := rfl
@[simp] theorem State.setWaiting_ou (l : List WaitEntry) : (s.setWaiting l).ou = s.ou := rfl
@[simp] theorem State.setWaiting_tb (l : List WaitEntry) : (s.setWaiting l).tb = s.tb := rfl
@[simp] theorem State.setWaiting_nq (l : List WaitEntry) : (s.setWaiting l).nq = s.nq := rfl
@[simp] theorem State.setWaiting_crl (l : List WaitEntry) : (s.setWaiting l).crl = s.crl := rfl

@[simp] theorem State.setContext_pending (c : Nat) (x : Context) : (s.setContext c x).pending = s.pending := rfl
@[simp] theorem State.setContext_ms (c : Nat) (x : Context) : (s.setContext c x).ms = s.ms := rfl
@[simp] theorem State.setContext_flc (c : Nat) (x : Context) : (s.setContext c x).flc = s.flc := rfl
@[simp] theorem State.setContext_pe (c : Nat) (x : Context) : (s.setContext c x).pe = s.pe := rfl
@[simp] theorem State.setContext_vou (c : Nat) (x : Context) : (s.setContext c x).vou = s.vou := rfl
@[simp] theorem State.setContext_me (c : Nat) (x : Context) : (s.setContext c x).me = s.me := rfl
@[simp] theorem State.setContext_it (c : Nat) (x : Context) : (s.setContext c x).it = s.it := rfl
@[simp] theorem State.setContext_ou (c : Nat) (x : Context) : (s.setContext c x).ou = s.ou := rfl
@[simp] theorem State.setContext_tb (c : Nat) (x : Context) : (s.setContext c x).tb = s.tb := rfl
@[simp] theorem State.setContext_nq (c : Nat) (x : Context) : (s.setContext c x).nq = s.nq := rfl
@[simp] theorem State.setContext_crl (c : Nat) (x : Context) : (s.setContext c x).crl = s.crl := rfl

@[simp] theorem State.setOutage_pending (n : Nat) (x : OutageRecord) : (s.setOutage n x).pending = s.pending := rfl
@[simp] theorem State.setOutage_ms (n : Nat) (x : OutageRecord) : (s.setOutage n x).ms = s.ms := rfl
@[simp] theorem State.setOutage_flc (n : Nat) (x : OutageRecord) : (s.setOutage n x).flc = s.flc := rfl
@[simp] theorem State.setOutage_pe (n : Nat) (x : OutageRecord) : (s.setOutage n x).pe = s.pe := rfl
@[simp] theorem State.setOutage_vou (n : Nat) (x : OutageRecord) : (s.setOutage n x).vou = s.vou := rfl
@[simp] theorem State.setOutage_me (n : Nat) (x : OutageRecord) : (s.setOutage n x).me = s.me := rfl
@[simp] theorem State.setOutage_it (n : Nat) (x : OutageRecord) : (s.setOutage n x).it = s.it := rfl
@[simp] theorem State.setOutage_iu (n : Nat) (x : OutageRecord) : (s.setOutage n x).iu = s.iu := rfl
@[simp] theorem State.setOutage_tb (n : Nat) (x : OutageRecord) : (s.setOutage n x).tb = s.tb := rfl
@[simp] theorem State.setOutage_nq (n : Nat) (x : OutageRecord) : (s.setOutage n x).nq = s.nq := rfl
@[simp] theorem State.setOutage_crl (n : Nat) (x : OutageRecord) : (s.setOutage n x).crl = s.crl := rfl

@[simp] theorem State.setService_pending (g : Nat) (x : Service) : (s.setService g x).pending = s.pending := rfl
@[simp] theorem State.setService_ms (g : Nat) (x : Service) : (s.setService g x).ms = s.ms := rfl
@[simp] theorem State.setService_flc (g : Nat) (x : Service) : (s.setService g x).flc = s.flc := rfl
@[simp] theorem State.setService_pe (g : Nat) (x : Service) : (s.setService g x).pe = s.pe := rfl
@[simp] theorem State.setService_vou (g : Nat) (x : Service) : (s.setService g x).vou = s.vou := rfl
@[simp] theorem State.setService_me (g : Nat) (x : Service) : (s.setService g x).me = s.me := rfl
@[simp] theorem State.setService_it (g : Nat) (x : Service) : (s.setService g x).it = s.it := rfl
@[simp] theorem State.setService_iu (g : Nat) (x : Service) : (s.setService g x).iu = s.iu := rfl
@[simp] theorem State.setService_tb (g : Nat) (x : Service) : (s.setService g x).tb = s.tb := rfl
@[simp] theorem State.setService_nq (g : Nat) (x : Service) : (s.setService g x).nq = s.nq := rfl
@[simp] theorem State.setService_crl (g : Nat) (x : Service) : (s.setService g x).crl = s.crl := rfl

@[simp] theorem State.setIncident_pending (x : Incident) : (s.setIncident x).pending = s.pending := rfl
@[simp] theorem State.setIncident_ms (x : Incident) : (s.setIncident x).ms = s.ms := rfl
@[simp] theorem State.setIncident_flc (x : Incident) : (s.setIncident x).flc = s.flc := rfl
@[simp] theorem State.setIncident_pe (x : Incident) : (s.setIncident x).pe = s.pe := rfl
@[simp] theorem State.setIncident_vou (x : Incident) : (s.setIncident x).vou = s.vou := rfl
@[simp] theorem State.setIncident_me (x : Incident) : (s.setIncident x).me = s.me := rfl
@[simp] theorem State.setIncident_iu (x : Incident) : (s.setIncident x).iu = s.iu := rfl
@[simp] theorem State.setIncident_ou (x : Incident) : (s.setIncident x).ou = s.ou := rfl
@[simp] theorem State.setIncident_tb (x : Incident) : (s.setIncident x).tb = s.tb := rfl
@[simp] theorem State.setIncident_nq (x : Incident) : (s.setIncident x).nq = s.nq := rfl
@[simp] theorem State.setIncident_crl (x : Incident) : (s.setIncident x).crl = s.crl := rfl

@[simp] theorem State.startChannel_pending (n d : Nat) (m : TimerMode) (g : Bool) : (s.startChannel n d m g).pending = s.pending := rfl
@[simp] theorem State.startChannel_ms (n d : Nat) (m : TimerMode) (g : Bool) : (s.startChannel n d m g).ms = s.ms := rfl
@[simp] theorem State.startChannel_flc (n d : Nat) (m : TimerMode) (g : Bool) : (s.startChannel n d m g).flc = s.flc := rfl
@[simp] theorem State.startChannel_pe (n d : Nat) (m : TimerMode) (g : Bool) : (s.startChannel n d m g).pe = s.pe := rfl
@[simp] theorem State.startChannel_vou (n d : Nat) (m : TimerMode) (g : Bool) : (s.startChannel n d m g).vou = s.vou := rfl
@[simp] theorem State.startChannel_me (n d : Nat) (m : TimerMode) (g : Bool) : (s.startChannel n d m g).me = s.me := rfl
@[simp] theorem State.startChannel_it (n d : Nat) (m : TimerMode) (g : Bool) : (s.startChannel n d m g).it = s.it := rfl
@[simp] theorem State.startChannel_iu (n d : Nat) (m : TimerMode) (g : Bool) : (s.startChannel n d m g).iu = s.iu := rfl
@[simp] theorem State.startChannel_ou (n d : Nat) (m : TimerMode) (g : Bool) : (s.startChannel n d m g).ou = s.ou := rfl
@[simp] theorem State.startChannel_nq (n d : Nat) (m : TimerMode) (g : Bool) : (s.startChannel n d m g).nq = s.nq := rfl
@[simp] theorem State.startChannel_crl (n d : Nat) (m : TimerMode) (g : Bool) : (s.startChannel n d m g).crl = s.crl := rfl

@[simp] theorem State.stopChannel_pending (n : Nat) : (s.stopChannel n).pending = s.pending := rfl
@[simp] theorem State.stopChannel_ms (n : Nat) : (s.stopChannel n).ms = s.ms := rfl
@[simp] theorem State.stopChannel_flc (n : Nat) : (s.stopChannel n).flc = s.flc := rfl
@[simp] theorem State.stopChannel_pe (n : Nat) : (s.stopChannel n).pe = s.pe := rfl
@[simp] theorem State.stopChannel_vou (n : Nat) : (s.stopChannel n).vou = s.vou := rfl
@[simp] theorem State.stopChannel_me (n : Nat) : (s.stopChannel n).me = s.me := rfl
@[simp] theorem State.stopChannel_it (n : Nat) : (s.stopChannel n).it = s.it := rfl
@[simp] theorem State.stopChannel_iu (n : Nat) : (s.stopChannel n).iu = s.iu := rfl
@[simp] theorem State.stopChannel_ou (n : Nat) : (s.stopChannel n).ou = s.ou := rfl
@[simp] theorem State.stopChannel_nq (n : Nat) : (s.stopChannel n).nq = s.nq := rfl
@[simp] theorem State.stopChannel_crl (n : Nat) : (s.stopChannel n).crl = s.crl := rfl

@[simp] theorem State.gateChannel_pending (n : Nat) (g : Bool) : (s.gateChannel n g).pending = s.pending := rfl
@[simp] theorem State.gateChannel_ms (n : Nat) (g : Bool) : (s.gateChannel n g).ms = s.ms := rfl
@[simp] theorem State.gateChannel_flc (n : Nat) (g : Bool) : (s.gateChannel n g).flc = s.flc := rfl
@[simp] theorem State.gateChannel_pe (n : Nat) (g : Bool) : (s.gateChannel n g).pe = s.pe := rfl
@[simp] theorem State.gateChannel_vou (n : Nat) (g : Bool) : (s.gateChannel n g).vou = s.vou := rfl
@[simp] theorem State.gateChannel_me (n : Nat) (g : Bool) : (s.gateChannel n g).me = s.me := rfl
@[simp] theorem State.gateChannel_it (n : Nat) (g : Bool) : (s.gateChannel n g).it = s.it := rfl
@[simp] theorem State.gateChannel_iu (n : Nat) (g : Bool) : (s.gateChannel n g).iu = s.iu := rfl
@[simp] theorem State.gateChannel_ou (n : Nat) (g : Bool) : (s.gateChannel n g).ou = s.ou := rfl
@[simp] theorem State.gateChannel_nq (n : Nat) (g : Bool) : (s.gateChannel n g).nq = s.nq := rfl
@[simp] theorem State.gateChannel_crl (n : Nat) (g : Bool) : (s.gateChannel n g).crl = s.crl := rfl

/-! ### Vectors of the state -/

/-- Reading an element of a vector, with a default out of bounds. -/
theorem vector_getD {α : Type} {n : Nat} (v : Vector α n) (i : Nat) (d : α) : v.getD i d = v[i]?.getD d := by
  simp [Vector.getD, Array.getD_eq_getD_getElem?]

/-- Reading an element of a vector that a function has been mapped over. -/
theorem getD_map {α β : Type} {n : Nat} (v : Vector α n) (f : α → β) (i : Nat) (d : α) (e : β) (h : f d = e) :
    (v.map f).getD i e = f (v.getD i d) := by
  simp only [vector_getD, Vector.getElem?_map]
  cases v[i]? <;> simp [h]

/-- Reading an element of a vector after a write of one in bounds. -/
theorem getD_setIfInBounds {α : Type} {n : Nat} (v : Vector α n) (i j : Nat) (x d : α) :
    (v.setIfInBounds i x).getD j d = if i = j ∧ j < n then x else v.getD j d := by
  simp only [vector_getD, Vector.getElem?_setIfInBounds]
  by_cases h : i = j
  · subst h; by_cases hn : i < n <;> simp [hn]
  · simp [h]

theorem State.setContext_context (c n : Nat) (x : Context) :
    (s.setContext c x).context n = if c = n ∧ n < 8 then x else s.context n := getD_setIfInBounds ..
theorem State.setSlot_slot (k n : Nat) (o : Option Order) :
    (s.setSlot k o).slot n = if k = n ∧ n < 12 then o else s.slot n := getD_setIfInBounds ..
theorem State.setStation_station (k n : Nat) (x : StationLive) :
    (s.setStation k x).station n = if k = n ∧ n < 64 then x else s.station n := getD_setIfInBounds ..
theorem State.setController_controller (k n : Nat) (x : Controller) :
    (s.setController k x).controller n = if k = n ∧ n < 4 then x else s.controller n := getD_setIfInBounds ..
theorem State.setOutage_outage (k n : Nat) (x : OutageRecord) :
    (s.setOutage k x).outage n = if k = n ∧ n < 16 then x else s.outage n := getD_setIfInBounds ..
theorem State.startChannel_channel (k n d : Nat) (m : TimerMode) (g : Bool) :
    (s.startChannel k d m g).channel n = if k = n ∧ n < 84 then .loaded d m g else s.channel n := getD_setIfInBounds ..
theorem State.stopChannel_channel (k n : Nat) :
    (s.stopChannel k).channel n = if k = n ∧ n < 84 then (s.channel k).stop else s.channel n := getD_setIfInBounds ..

end Sys2Proof.Machine
end

