-- ==== Sys2Proof/Laws/Reach.lean ====
section
/-! SUPPORT. What the blocks' operations can write: `Reach` says it once for all of them, and every operation has its
lemma. No such operation writes the Model Store, the link, the queue of commands or network time, and only those of
the Field Line Controllers write the lines. -/
namespace Sys2Proof.Machine

/-- The state `t` follows from `s` by postings, commands to the Timer Bank, and writes of the pressure, order, engine,
incident, isolation and outage blocks; of the lines too where `lines` holds. -/
inductive Reach (lines : Bool) (s : State) : State → Prop
  | refl : Reach lines s s
  | post {t : State} (h : Reach lines s t) (c : NoticeClass) (b : NoticeBody) : Reach lines s (t.post c b)
  | start {t : State} (h : Reach lines s t) (n d : Nat) (m : TimerMode) (g : Bool) :
      Reach lines s (t.startChannel n d m g)
  | stop {t : State} (h : Reach lines s t) (n : Nat) : Reach lines s (t.stopChannel n)
  | gate {t : State} (h : Reach lines s t) (n : Nat) (g : Bool) : Reach lines s (t.gateChannel n g)
  | pe {t : State} (h : Reach lines s t) (x : PressureUnit) : Reach lines s (t.withPe x)
  | vou {t : State} (h : Reach lines s t) (x : OrderUnit) : Reach lines s (t.withVou x)
  | me {t : State} (h : Reach lines s t) (x : Engine) : Reach lines s (t.withMe x)
  | it {t : State} (h : Reach lines s t) (x : IncidentTable) : Reach lines s (t.withIt x)
  | iu {t : State} (h : Reach lines s t) (x : IsolationUnit) : Reach lines s (t.withIu x)
  | ou {t : State} (h : Reach lines s t) (x : OutageUnit) : Reach lines s (t.withOu x)
  | flc {t : State} (h : Reach lines s t) (hl : lines = true) (x : FieldLines) : Reach lines s (t.withFlc x)

/-- A fold of operations. -/
theorem Reach.foldl {b : Bool} {s : State} {α : Type} {f : State → α → State} {l : List α}
    (hf : ∀ t a, Reach b s t → Reach b s (f t a)) {t : State} (h : Reach b s t) : Reach b s (l.foldl f t) := by
  induction l generalizing t with
  | nil => exact h
  | cons a l ih => exact ih (hf t a h)

variable {b : Bool} {s t : State}


theorem Reach.setStation (st : Nat) (x : StationLive) (h : Reach true s t) :
    Reach true s (t.setStation st x) := by
  unfold State.setStation
  repeat' (first | with_reducible assumption | exact rfl | with_reducible apply Reach.flc)

theorem Reach.setController (line : Nat) (x : Controller) (h : Reach true s t) :
    Reach true s (t.setController line x) := by
  unfold State.setController
  repeat' (first | with_reducible assumption | exact rfl | with_reducible apply Reach.flc)

theorem Reach.setSlot (k : Nat) (o : Option Order) (h : Reach b s t) :
    Reach b s (t.setSlot k o) := by
  unfold State.setSlot
  repeat' (first | with_reducible assumption | with_reducible apply Reach.vou)

theorem Reach.setValve (v : Nat) (x : ValveLive) (h : Reach b s t) :
    Reach b s (t.setValve v x) := by
  unfold State.setValve
  repeat' (first | with_reducible assumption | with_reducible apply Reach.vou)

theorem Reach.setValveSlot (v : Nat) (k : Option Nat) (h : Reach b s t) :
    Reach b s (t.setValveSlot v k) := by
  unfold State.setValveSlot
  repeat' (first | with_reducible assumption | with_reducible apply Reach.vou)

theorem Reach.setWaiting (l : List WaitEntry) (h : Reach b s t) :
    Reach b s (t.setWaiting l) := by
  unfold State.setWaiting
  repeat' (first | with_reducible assumption | with_reducible apply Reach.vou)

theorem Reach.setContext (c : Nat) (x : Context) (h : Reach b s t) :
    Reach b s (t.setContext c x) := by
  unfold State.setContext
  repeat' (first | with_reducible assumption | with_reducible apply Reach.iu)

theorem Reach.modContext (c : Nat) (f : Context → Context) (h : Reach b s t) :
    Reach b s (t.modContext c f) := by
  unfold State.modContext
  repeat' (first | with_reducible assumption | with_reducible apply Reach.setContext)

theorem Reach.setOutage (n : Nat) (x : OutageRecord) (h : Reach b s t) :
    Reach b s (t.setOutage n x) := by
  unfold State.setOutage
  repeat' (first | with_reducible assumption | with_reducible apply Reach.ou)

theorem Reach.setService (seg : Nat) (x : Service) (h : Reach b s t) :
    Reach b s (t.setService seg x) := by
  unfold State.setService
  repeat' (first | with_reducible assumption | with_reducible apply Reach.ou)

theorem Reach.setIncident (x : Incident) (h : Reach b s t) :
    Reach b s (t.setIncident x) := by
  unfold State.setIncident
  repeat' (first | with_reducible assumption | with_reducible apply Reach.it)

theorem Reach.linkIncident (serial : Nat) (c : Option Nat) (h : Reach b s t) :
    Reach b s (t.linkIncident serial c) := by
  unfold State.linkIncident
  repeat' (first | with_reducible assumption | with_reducible apply Reach.setIncident | split)

theorem Reach.startChannelOnce (n d : Nat) (mode : TimerMode) (gateOpen : Bool) (h : Reach b s t) :
    Reach b s (t.startChannelOnce n d mode gateOpen).1 := by
  unfold State.startChannelOnce
  repeat' (first | with_reducible assumption | with_reducible apply Reach.start | split)

theorem Reach.setEngine (e : EngineState) (h : Reach b s t) :
    Reach b s (t.setEngine e) := by
  unfold State.setEngine
  repeat' (first | with_reducible assumption | with_reducible apply Reach.me)

theorem Reach.chooseJob  (h : Reach b s t) :
    Reach b s t.chooseJob := by
  unfold State.chooseJob
  repeat' (first | with_reducible assumption | with_reducible apply Reach.me
                  | with_reducible apply Reach.setEngine | split)

theorem Reach.requestTrace  (h : Reach b s t) :
    Reach b s t.requestTrace := by
  unfold State.requestTrace
  repeat' (first | with_reducible assumption | with_reducible apply Reach.me
                  | with_reducible apply Reach.chooseJob | with_reducible apply Reach.setEngine | split)

theorem Reach.enqueueSearch (c : Nat) (h : Reach b s t) :
    Reach b s (t.enqueueSearch c) := by
  unfold State.enqueueSearch; try dsimp only [refuse]
  repeat' (first | with_reducible assumption | with_reducible apply Reach.me
                  | with_reducible apply Reach.chooseJob | split)

theorem Reach.requestSearch (c : Nat) (h : Reach b s t) :
    Reach b s (t.requestSearch c) := by
  unfold State.requestSearch
  repeat' (first | with_reducible assumption | with_reducible apply Reach.setEngine
                  | with_reducible apply Reach.enqueueSearch | split)

theorem Reach.withdrawSearch (c : Nat) (h : Reach b s t) :
    Reach b s (t.withdrawSearch c) := by
  unfold State.withdrawSearch; try dsimp only [refuse]
  repeat' (first | with_reducible assumption | with_reducible apply Reach.me
                  | with_reducible apply Reach.chooseJob | split)

theorem Reach.engineValveChange (v : Nat) (old new : ValveLive) (h : Reach b s t) :
    Reach b s (t.engineValveChange v old new) := by
  unfold State.engineValveChange; try dsimp only [refuse]
  repeat' (first | with_reducible assumption | with_reducible apply Reach.requestTrace
                  | with_reducible apply Reach.setEngine | split)

theorem Reach.startEngine  (h : Reach b s t) :
    Reach b s t.startEngine := by
  unfold State.startEngine
  repeat' (first | with_reducible assumption | with_reducible apply Reach.me
                  | with_reducible apply Reach.requestTrace)

theorem Reach.stopEngine  (h : Reach b s t) :
    Reach b s t.stopEngine := by
  unfold State.stopEngine
  repeat' (first | with_reducible assumption | with_reducible apply Reach.me)

theorem Reach.setOutageRef (seg n : Nat) (h : Reach b s t) :
    Reach b s (t.setOutageRef seg n) := by
  unfold State.setOutageRef
  repeat' (first | with_reducible assumption | with_reducible apply Reach.setService | split)

theorem Reach.joinRecord (n seg : Nat) (cause : OutageCause) (h : Reach b s t) :
    Reach b s (t.joinRecord n seg cause) := by
  unfold State.joinRecord; try dsimp only [refuse]
  repeat' (first | with_reducible assumption | with_reducible apply Reach.setOutage
                  | with_reducible apply Reach.setOutageRef)

theorem Reach.bringRecord (n : Nat) (h : Reach b s t) :
    Reach b s (t.bringRecord n) := by
  unfold State.bringRecord
  repeat' (first | with_reducible assumption | with_reducible apply Reach.setOutage)

theorem Reach.freeRecord (n : Nat) (h : Reach b s t) :
    Reach b s (t.freeRecord n) := by
  unfold State.freeRecord
  repeat' (first | with_reducible assumption | with_reducible apply Reach.ou | with_reducible apply Reach.setOutage)

theorem Reach.absorbRecord (survivor a : Nat) (h : Reach b s t) :
    Reach b s (t.absorbRecord survivor a) := by
  unfold State.absorbRecord; try dsimp only [refuse]
  repeat' (first | with_reducible assumption | (with_reducible refine Reach.foldl (fun t a h => ?_) ?_)
                  | with_reducible apply Reach.setOutage | with_reducible apply Reach.setOutageRef
                  | with_reducible apply Reach.stop | with_reducible apply Reach.freeRecord
                  | with_reducible apply Reach.post)

theorem Reach.openRecord (n seg : Nat) (cause : OutageCause) (h : Reach b s t) :
    Reach b s (t.openRecord n seg cause) := by
  unfold State.openRecord; try dsimp only [refuse]
  repeat' (first | with_reducible assumption | with_reducible apply Reach.setOutage
                  | with_reducible apply Reach.ou | with_reducible apply Reach.joinRecord
                  | with_reducible apply Reach.start | with_reducible apply Reach.post)

theorem Reach.takeRecord (seg : Nat) (cause : OutageCause) (h : Reach b s t) :
    Reach b s (t.takeRecord seg cause) := by
  unfold State.takeRecord; try dsimp only [refuse]
  repeat' (first | with_reducible assumption | with_reducible apply Reach.openRecord
                  | with_reducible apply Reach.post | with_reducible apply Reach.setOutage
                  | with_reducible apply Reach.joinRecord | split)

theorem Reach.joinOutage (seg : Nat) (cause : OutageCause) (member : Option Nat) (h : Reach b s t) :
    Reach b s (t.joinOutage seg cause member) := by
  unfold State.joinOutage; try dsimp only [refuse]
  repeat' (first | with_reducible assumption | (with_reducible refine Reach.foldl (fun t a h => ?_) ?_)
                  | with_reducible apply Reach.takeRecord | with_reducible apply Reach.bringRecord
                  | with_reducible apply Reach.absorbRecord | with_reducible apply Reach.joinRecord | split)

theorem Reach.postSegmentState (seg : Nat) (old : ServiceState) (h : Reach b s t) :
    Reach b s (t.postSegmentState seg old) := by
  unfold State.postSegmentState
  repeat' (first | with_reducible assumption | with_reducible apply Reach.post | split)

theorem Reach.moveService (seg : Nat) (x : Service) (new : ServiceState) (h : Reach b s t) :
    Reach b s (t.moveService seg x new) := by
  unfold State.moveService
  repeat' (first | with_reducible assumption | with_reducible apply Reach.setService
                  | with_reducible apply Reach.postSegmentState | split)

theorem Reach.judgeInService (seg : Nat) (x : Service) (h : Reach b s t) :
    Reach b s (t.judgeInService seg x) := by
  unfold State.judgeInService; try dsimp only [refuse]
  repeat' (first | with_reducible assumption | with_reducible apply Reach.setService
                  | with_reducible apply Reach.joinOutage | with_reducible apply Reach.postSegmentState
                  | with_reducible apply Reach.moveService | split)

theorem Reach.recause (seg : Nat) (x : Service) (cause : OutageCause) (h : Reach b s t) :
    Reach b s (t.recause seg x cause) := by
  unfold State.recause; try dsimp only [refuse]
  repeat' (first | with_reducible assumption | with_reducible apply Reach.setOutage | split)

theorem Reach.judgeOff (seg : Nat) (x : Service) (h : Reach b s t) :
    Reach b s (t.judgeOff seg x) := by
  unfold State.judgeOff; try dsimp only [refuse]
  repeat' (first | with_reducible assumption | with_reducible apply Reach.moveService
                  | with_reducible apply Reach.recause | split)

theorem Reach.judge (seg : Nat) (x : Service) (h : Reach b s t) :
    Reach b s (t.judge seg x) := by
  unfold State.judge
  repeat' (first | with_reducible assumption | with_reducible apply Reach.judgeInService
                  | with_reducible apply Reach.judgeOff | split)

theorem Reach.serviceInput (seg : Nat) (f : Service → Service) (h : Reach b s t) :
    Reach b s (t.serviceInput seg f) := by
  unfold State.serviceInput
  repeat' (first | with_reducible assumption | with_reducible apply Reach.setService
                  | with_reducible apply Reach.judge | split)

theorem Reach.deliverFed (seg : Nat) (fed : Bool) (h : Reach b s t) :
    Reach b s (t.deliverFed seg fed) := by
  unfold State.deliverFed
  repeat' (first | with_reducible assumption | with_reducible apply Reach.serviceInput)

theorem Reach.deliverCondition (seg : Nat) (c : Condition) (h : Reach b s t) :
    Reach b s (t.deliverCondition seg c) := by
  unfold State.deliverCondition
  repeat' (first | with_reducible assumption | with_reducible apply Reach.serviceInput)

theorem Reach.deliverMember (seg : Nat) (member : Option Nat) (h : Reach b s t) :
    Reach b s (t.deliverMember seg member) := by
  unfold State.deliverMember
  repeat' (first | with_reducible assumption | with_reducible apply Reach.serviceInput)

theorem Reach.closeRecord (n : Nat) (h : Reach b s t) :
    Reach b s (t.closeRecord n) := by
  unfold State.closeRecord; try dsimp only [refuse]
  repeat' (first | with_reducible assumption | with_reducible apply Reach.bringRecord
                  | with_reducible apply Reach.stop | with_reducible apply Reach.ou
                  | with_reducible apply Reach.setOutage | with_reducible apply Reach.post)

theorem Reach.relightSegment (seg n : Nat) (x : Service) (h : Reach b s t) :
    Reach b s (t.relightSegment seg n x) := by
  unfold State.relightSegment; try dsimp only [refuse]
  repeat' (first | with_reducible assumption | with_reducible apply Reach.bringRecord
                  | with_reducible apply Reach.setOutage | with_reducible apply Reach.setService
                  | with_reducible apply Reach.postSegmentState | with_reducible apply Reach.closeRecord | split)

theorem Reach.countNoGas (n : Nat) (h : Reach b s t) :
    Reach b s (t.countNoGas n) := by
  unfold State.countNoGas; try dsimp only [refuse]
  repeat' (first | with_reducible assumption | with_reducible apply Reach.setOutage)

theorem Reach.outageReminder (n : Nat) (h : Reach b s t) :
    Reach b s (t.outageReminder n) := by
  unfold State.outageReminder; try dsimp only [refuse]
  repeat' (first | with_reducible assumption | with_reducible apply Reach.bringRecord
                  | with_reducible apply Reach.post | split)

theorem Reach.startService  (h : Reach b s t) :
    Reach b s t.startService := by
  unfold State.startService
  repeat' (first | with_reducible assumption | with_reducible apply Reach.ou)

theorem Reach.discardActive (n : Nat) (h : Reach b s t) :
    Reach b s (t.discardActive n) := by
  unfold State.discardActive; try dsimp only [refuse]
  repeat' (first | with_reducible assumption | with_reducible apply Reach.bringRecord
                  | with_reducible apply Reach.stop | with_reducible apply Reach.post
                  | with_reducible apply Reach.freeRecord | split)

theorem Reach.stopService  (h : Reach b s t) :
    Reach b s t.stopService := by
  unfold State.stopService; try dsimp only [refuse]
  repeat' (first | with_reducible assumption | (with_reducible refine Reach.foldl (fun t a h => ?_) ?_)
                  | with_reducible apply Reach.discardActive | with_reducible apply Reach.ou)

theorem Reach.takeSlot (k v : Nat) (action : Action) (priority : Nat) (origin : Origin) (oneShot : Bool) (h : Reach
      b s t) :
    Reach b s (t.takeSlot k v action priority origin oneShot) := by
  unfold State.takeSlot
  repeat' (first | with_reducible assumption | with_reducible apply Reach.setSlot
                  | with_reducible apply Reach.setValveSlot)

theorem Reach.postUnslotted (c v : Nat) (action : Action) (outcome : OrderOutcome) (h : Reach b s t) :
    Reach b s (t.postUnslotted c v action outcome) := by
  unfold State.postUnslotted
  repeat' (first | with_reducible assumption | with_reducible apply Reach.post)

theorem Reach.endRequest (c v : Nat) (action : Action) (o : OrderOutcome) (h : Reach b s t) :
    Reach b s (t.endRequest c v action o).1 := by
  unfold State.endRequest; try dsimp only [refuse]
  repeat' (first | with_reducible assumption | with_reducible apply Reach.postUnslotted)

theorem Reach.contextRequest (c v : Nat) (action : Action) (h : Reach b s t) :
    Reach b s (t.contextRequest c v action).1 := by
  unfold State.contextRequest; try dsimp only [refuse]
  repeat' (first | with_reducible assumption | with_reducible apply Reach.endRequest
                  | with_reducible apply Reach.takeSlot | with_reducible apply Reach.setWaiting | split)

theorem Reach.dropWaiting (c : Nat) (old : ContextState) (h : Reach b s t) :
    Reach b s (t.dropWaiting c old) := by
  unfold State.dropWaiting
  repeat' (first | with_reducible assumption | with_reducible apply Reach.setWaiting | split)

theorem Reach.postIsolation (c : Nat) (old : ContextState) (breached : Option Nat) (h : Reach b s t) :
    Reach b s (t.postIsolation c old breached) := by
  unfold State.postIsolation; try dsimp only [refuse]
  repeat' (first | with_reducible assumption | with_reducible apply Reach.post)

theorem Reach.enter (c : Nat) (new : ContextState) (f : Context → Context) (breached : Option Nat) (h : Reach b s t) :
    Reach b s (t.enter c new f breached) := by
  unfold State.enter; try dsimp only [refuse]
  repeat' (first | with_reducible assumption | with_reducible apply Reach.dropWaiting
                  | with_reducible apply Reach.setContext | with_reducible apply Reach.postIsolation)

theorem Reach.searchAgain (c : Nat) (h : Reach b s t) :
    Reach b s (t.searchAgain c) := by
  unfold State.searchAgain
  repeat' (first | with_reducible assumption | with_reducible apply Reach.enter
                  | with_reducible apply Reach.requestSearch)

theorem Reach.returnToPlanned (c : Nat) (h : Reach b s t) :
    Reach b s (t.returnToPlanned c) := by
  unfold State.returnToPlanned
  repeat' (first | with_reducible assumption | with_reducible apply Reach.enter | split)

theorem Reach.failureRule (c : Nat) (h : Reach b s t) :
    Reach b s (t.failureRule c) := by
  unfold State.failureRule
  repeat' (first | with_reducible assumption | with_reducible apply Reach.searchAgain | split)

theorem Reach.setStatus (c v : Nat) (st : EntryStatus) (h : Reach b s t) :
    Reach b s (t.setStatus c v st) := by
  unfold State.setStatus
  repeat' (first | with_reducible assumption | with_reducible apply Reach.modContext)

theorem Reach.enterClosedWait (c : Nat) (h : Reach b s t) :
    Reach b s (t.enterClosedWait c) := by
  unfold State.enterClosedWait; try dsimp only [refuse]
  repeat' (first | with_reducible assumption | with_reducible apply Reach.start | with_reducible apply Reach.enter)

theorem Reach.checkClosed (c : Nat) (h : Reach b s t) :
    Reach b s (t.checkClosed c) := by
  unfold State.checkClosed; try dsimp only [refuse]
  repeat' (first | with_reducible assumption | with_reducible apply Reach.enterClosedWait | split)

theorem Reach.checkDecayed (c : Nat) (h : Reach b s t) :
    Reach b s (t.checkDecayed c) := by
  unfold State.checkDecayed; try dsimp only [refuse]
  repeat' (first | with_reducible assumption | with_reducible apply Reach.stop | with_reducible apply Reach.enter
                  | split)

theorem Reach.dropDecay (c p : Nat) (h : Reach b s t) :
    Reach b s (t.dropDecay c p) := by
  unfold State.dropDecay
  repeat' (first | with_reducible assumption | with_reducible apply Reach.modContext
                  | with_reducible apply Reach.checkDecayed)

theorem Reach.judgeDecay (c p f : Nat) (t0 : TierRec) (h : Reach b s t) :
    Reach b s (t.judgeDecay c p f t0) := by
  unfold State.judgeDecay
  repeat' (first | with_reducible assumption | with_reducible apply Reach.modContext
                  | with_reducible apply Reach.checkDecayed)

theorem Reach.offerSample (c p : Nat) (state : PointState) (f : Option Nat) (seg : Nat) (h : Reach b s t) :
    Reach b s (t.offerSample c p state f seg) := by
  unfold State.offerSample
  repeat' (first | with_reducible assumption | with_reducible apply Reach.judgeDecay
                  | with_reducible apply Reach.dropDecay | split)

theorem Reach.tellStale (c p : Nat) (h : Reach b s t) :
    Reach b s (t.tellStale c p) := by
  unfold State.tellStale
  repeat' (first | with_reducible assumption | with_reducible apply Reach.dropDecay | split)

theorem Reach.contextExpiry (c : Nat) (h : Reach b s t) :
    Reach b s (t.contextExpiry c) := by
  unfold State.contextExpiry; try dsimp only [refuse]
  repeat' (first | with_reducible assumption | with_reducible apply Reach.enter | split)

theorem Reach.answerEffect (c : Nat) (y0 : OrderReply) (h : Reach b s t) :
    Reach b s (t.answerEffect c y0) := by
  unfold State.answerEffect; try dsimp only [refuse]
  repeat' (first | with_reducible assumption | with_reducible apply Reach.checkClosed
                  | with_reducible apply Reach.returnToPlanned | with_reducible apply Reach.failureRule | split)

theorem Reach.requestClose (c v : Nat) (h : Reach b s t) :
    Reach b s (t.requestClose c v).1 := by
  unfold State.requestClose; try dsimp only [refuse]
  repeat' (first | with_reducible assumption | with_reducible apply Reach.contextRequest
                  | with_reducible apply Reach.setStatus)

theorem Reach.leaveZone (zone : List Nat) (h : Reach b s t) :
    Reach b s (t.leaveZone zone) := by
  unfold State.leaveZone
  repeat' (first | with_reducible assumption | (with_reducible refine Reach.foldl (fun t a h => ?_) ?_)
                  | with_reducible apply Reach.deliverMember)

theorem Reach.freeContext (c : Nat) (h : Reach b s t) :
    Reach b s (t.freeContext c) := by
  unfold State.freeContext; try dsimp only [refuse]
  repeat' (first | with_reducible assumption | with_reducible apply Reach.dropWaiting
                  | with_reducible apply Reach.stop | with_reducible apply Reach.withdrawSearch
                  | with_reducible apply Reach.modContext | with_reducible apply Reach.leaveZone
                  | with_reducible apply Reach.linkIncident | with_reducible apply Reach.postIsolation
                  | with_reducible apply Reach.setContext | split)

theorem Reach.checkReleased (c : Nat) (h : Reach b s t) :
    Reach b s (t.checkReleased c) := by
  unfold State.checkReleased; try dsimp only [refuse]
  repeat' (first | with_reducible assumption | with_reducible apply Reach.freeContext | split)

theorem Reach.modReopen (c v : Nat) (f : ReopenEntry → ReopenEntry) (h : Reach b s t) :
    Reach b s (t.modReopen c v f) := by
  unfold State.modReopen
  repeat' (first | with_reducible assumption | with_reducible apply Reach.modContext)

theorem Reach.requestOpen (c v : Nat) (h : Reach b s t) :
    Reach b s (t.requestOpen c v) := by
  unfold State.requestOpen; try dsimp only [refuse]
  repeat' (first | with_reducible assumption | with_reducible apply Reach.contextRequest
                  | with_reducible apply Reach.modReopen)

theorem Reach.routeReopen (c v : Nat) (h : Reach b s t) :
    Reach b s (t.routeReopen c v) := by
  unfold State.routeReopen
  repeat' (first | with_reducible assumption | with_reducible apply Reach.modReopen
                  | with_reducible apply Reach.requestOpen | split)

theorem Reach.boundaryOutcome (c v : Nat) (o : OrderOutcome) (h : Reach b s t) :
    Reach b s (t.boundaryOutcome c v o) := by
  unfold State.boundaryOutcome; try dsimp only [refuse]
  repeat' (first | with_reducible assumption | with_reducible apply Reach.modContext
                  | with_reducible apply Reach.checkClosed | with_reducible apply Reach.returnToPlanned
                  | with_reducible apply Reach.failureRule | split)

theorem Reach.interiorOutcome (c v : Nat) (o : OrderOutcome) (h : Reach b s t) :
    Reach b s (t.interiorOutcome c v o) := by
  unfold State.interiorOutcome
  repeat' (first | with_reducible assumption | with_reducible apply Reach.modContext | split)

theorem Reach.heldOutcome (c v : Nat) (h : Reach b s t) :
    Reach b s (t.heldOutcome c v) := by
  unfold State.heldOutcome; try dsimp only [refuse]
  repeat' (first | with_reducible assumption | with_reducible apply Reach.routeReopen
                  | with_reducible apply Reach.checkReleased | split)

theorem Reach.closeOutcome (c v : Nat) (o : OrderOutcome) (h : Reach b s t) :
    Reach b s (t.closeOutcome c v o) := by
  unfold State.closeOutcome
  repeat' (first | with_reducible assumption | with_reducible apply Reach.boundaryOutcome
                  | with_reducible apply Reach.interiorOutcome | with_reducible apply Reach.heldOutcome | split)

theorem Reach.openOutcome (c v : Nat) (o : OrderOutcome) (h : Reach b s t) :
    Reach b s (t.openOutcome c v o) := by
  unfold State.openOutcome
  repeat' (first | with_reducible assumption | with_reducible apply Reach.modReopen
                  | with_reducible apply Reach.checkReleased | split)

theorem Reach.deliverOutcome (c v : Nat) (action : Action) (o : OrderOutcome) (h : Reach b s t) :
    Reach b s (t.deliverOutcome c v action o) := by
  unfold State.deliverOutcome
  repeat' (first | with_reducible assumption | with_reducible apply Reach.openOutcome
                  | with_reducible apply Reach.closeOutcome | split)

theorem Reach.deliverGrant (c v : Nat) (action : Action) (h : Reach b s t) :
    Reach b s (t.deliverGrant c v action) := by
  unfold State.deliverGrant
  repeat' (first | with_reducible assumption | with_reducible apply Reach.modReopen
                  | with_reducible apply Reach.setStatus | split)

theorem Reach.boundaryClosed (c v : Nat) (h : Reach b s t) :
    Reach b s (t.boundaryClosed c v) := by
  unfold State.boundaryClosed; try dsimp only [refuse]
  repeat' (first | with_reducible assumption | with_reducible apply Reach.modContext
                  | with_reducible apply Reach.checkClosed)

theorem Reach.breach (c v : Nat) (h : Reach b s t) :
    Reach b s (t.breach c v) := by
  unfold State.breach
  repeat' (first | with_reducible assumption | with_reducible apply Reach.stop | with_reducible apply Reach.enter)

theorem Reach.boundaryOpened (c v : Nat) (e : BoundaryEntry) (h : Reach b s t) :
    Reach b s (t.boundaryOpened c v e) := by
  unfold State.boundaryOpened; try dsimp only [refuse]
  repeat' (first | with_reducible assumption | with_reducible apply Reach.breach
                  | with_reducible apply Reach.setStatus | with_reducible apply Reach.requestClose
                  | with_reducible apply Reach.answerEffect | split)

theorem Reach.boundaryUnknown (c v : Nat) (e : BoundaryEntry) (h : Reach b s t) :
    Reach b s (t.boundaryUnknown c v e) := by
  unfold State.boundaryUnknown
  repeat' (first | with_reducible assumption | with_reducible apply Reach.setStatus
                  | with_reducible apply Reach.failureRule | split)

theorem Reach.boundaryUpdate (c v : Nat) (p : Position) (h : Reach b s t) :
    Reach b s (t.boundaryUpdate c v p) := by
  unfold State.boundaryUpdate
  repeat' (first | with_reducible assumption | with_reducible apply Reach.boundaryClosed
                  | with_reducible apply Reach.boundaryOpened | with_reducible apply Reach.boundaryUnknown | split)

theorem Reach.staleCheck (c v : Nat) (old new : ValveLive) (h : Reach b s t) :
    Reach b s (t.staleCheck c v old new) := by
  unfold State.staleCheck; try dsimp only [refuse]
  repeat' (first | with_reducible assumption | with_reducible apply Reach.searchAgain | split)

theorem Reach.reopened (c v : Nat) (h : Reach b s t) :
    Reach b s (t.reopened c v) := by
  unfold State.reopened; try dsimp only [refuse]
  repeat' (first | with_reducible assumption | with_reducible apply Reach.modReopen
                  | with_reducible apply Reach.checkReleased | split)

theorem Reach.contextValveChange (v : Nat) (old new : ValveLive) (c : Nat) (h : Reach b s t) :
    Reach b s (t.contextValveChange v old new c) := by
  unfold State.contextValveChange; try dsimp only [refuse]
  repeat' (first | with_reducible assumption | with_reducible apply Reach.boundaryUpdate
                  | with_reducible apply Reach.staleCheck | with_reducible apply Reach.reopened | split)

theorem Reach.isolationValveChange (v : Nat) (old new : ValveLive) (h : Reach b s t) :
    Reach b s (t.isolationValveChange v old new) := by
  unfold State.isolationValveChange
  repeat' (first | with_reducible assumption | (with_reducible refine Reach.foldl (fun t a h => ?_) ?_)
                  | with_reducible apply Reach.contextValveChange)

theorem Reach.planFails (c : Nat) (failure : SearchFailure) (h : Reach b s t) :
    Reach b s (t.planFails c failure) := by
  unfold State.planFails; try dsimp only [refuse]
  repeat' (first | with_reducible assumption | with_reducible apply Reach.modContext
                  | with_reducible apply Reach.post)

theorem Reach.joinZone (c : Nat) (segs : List Nat) (h : Reach b s t) :
    Reach b s (t.joinZone c segs) := by
  unfold State.joinZone
  repeat' (first | with_reducible assumption | (with_reducible refine Reach.foldl (fun t a h => ?_) ?_)
                  | with_reducible apply Reach.deliverMember)

theorem Reach.writePlan (c : Nat) (plan : SearchPlan) (h : Reach b s t) :
    Reach b s (t.writePlan c plan) := by
  unfold State.writePlan; try dsimp only [refuse]
  repeat' (first | with_reducible assumption | with_reducible apply Reach.setContext
                  | with_reducible apply Reach.joinZone | with_reducible apply Reach.post)

theorem Reach.takeResult (c number : Nat) (r : SearchResult) (h : Reach b s t) :
    Reach b s (t.takeResult c number r) := by
  unfold State.takeResult; try dsimp only [refuse]
  repeat' (first | with_reducible assumption | with_reducible apply Reach.planFails
                  | with_reducible apply Reach.writePlan | split)

theorem Reach.takePlan (c serial : Nat) (seeds : List Nat) (remoteOnly automatic : Bool) (h : Reach b s t) :
    Reach b s (t.takePlan c serial seeds remoteOnly automatic) := by
  unfold State.takePlan; try dsimp only [refuse]
  repeat' (first | with_reducible assumption | with_reducible apply Reach.enter
                  | with_reducible apply Reach.requestSearch | with_reducible apply Reach.linkIncident | split)

theorem Reach.planRequest (serial : Nat) (seeds : List Nat) (remoteOnly : Nat) (h : Reach b s t) :
    Reach b s (t.planRequest serial seeds remoteOnly).1 := by
  unfold State.planRequest; try dsimp only [refuse]
  repeat' (first | with_reducible assumption | with_reducible apply Reach.takePlan | split)

theorem Reach.autoPlan (serial seg : Nat) (h : Reach b s t) :
    Reach b s (t.autoPlan serial seg) := by
  unfold State.autoPlan
  repeat' (first | with_reducible assumption | with_reducible apply Reach.post
                  | with_reducible apply Reach.takePlan | split)

theorem Reach.cancelRequest (c : Nat) (h : Reach b s t) :
    Reach b s (t.cancelRequest c).1 := by
  unfold State.cancelRequest; try dsimp only [refuse]
  repeat' (first | with_reducible assumption | with_reducible apply Reach.freeContext | split)

theorem Reach.requestClosures (c : Nat) (h : Reach b s t) :
    Reach b s (t.requestClosures c) := by
  unfold State.requestClosures
  repeat' (first | with_reducible assumption | (with_reducible refine Reach.foldl (fun t a h => ?_) ?_)
                  | with_reducible apply Reach.requestClose)

theorem Reach.settleExecution (c : Nat) (h : Reach b s t) :
    Reach b s (t.settleExecution c) := by
  unfold State.settleExecution
  repeat' (first | with_reducible assumption | with_reducible apply Reach.failureRule
                  | with_reducible apply Reach.checkClosed | split)

theorem Reach.executeRequest (c : Nat) (h : Reach b s t) :
    Reach b s (t.executeRequest c).1 := by
  unfold State.executeRequest; try dsimp only [refuse]
  repeat' (first | with_reducible assumption | with_reducible apply Reach.enter
                  | with_reducible apply Reach.requestClosures | with_reducible apply Reach.settleExecution | split)

theorem Reach.confirmRequest (c : Nat) (h : Reach b s t) :
    Reach b s (t.confirmRequest c).1 := by
  unfold State.confirmRequest; try dsimp only [refuse]
  repeat' (first | with_reducible assumption | with_reducible apply Reach.enter | split)

theorem Reach.extendRequest (c : Nat) (bars seeds : List Nat) (h : Reach b s t) :
    Reach b s (t.extendRequest c bars seeds).1 := by
  unfold State.extendRequest; try dsimp only [refuse]
  repeat' (first | with_reducible assumption | (with_reducible refine Reach.foldl (fun t a h => ?_) ?_)
                  | with_reducible apply Reach.stop | with_reducible apply Reach.enter
                  | with_reducible apply Reach.requestSearch | split)

theorem Reach.beginRelease (c : Nat) (h : Reach b s t) :
    Reach b s (t.beginRelease c) := by
  unfold State.beginRelease; try dsimp only [refuse]
  repeat' (first | with_reducible assumption | (with_reducible refine Reach.foldl (fun t a h => ?_) ?_)
                  | with_reducible apply Reach.stop | with_reducible apply Reach.enter
                  | with_reducible apply Reach.modContext | with_reducible apply Reach.routeReopen)

theorem Reach.routeAgain (c : Nat) (h : Reach b s t) :
    Reach b s (t.routeAgain c) := by
  unfold State.routeAgain
  repeat' (first | with_reducible assumption | (with_reducible refine Reach.foldl (fun t a h => ?_) ?_)
                  | with_reducible apply Reach.routeReopen)

theorem Reach.releaseRequest (c : Nat) (h : Reach b s t) :
    Reach b s (t.releaseRequest c).1 := by
  unfold State.releaseRequest; try dsimp only [refuse]
  repeat' (first | with_reducible assumption | with_reducible apply Reach.routeAgain
                  | with_reducible apply Reach.beginRelease | with_reducible apply Reach.checkReleased | split)

theorem Reach.readContext (c : Nat) (h : Reach b s t) :
    Reach b s (t.readContext c).1 := by
  unfold State.readContext; repeat' split
  all_goals exact h

theorem Reach.postValveState (v : Nat) (old new : ValveLive) (cause : ValveCause) (h : Reach b s t) :
    Reach b s (t.postValveState v old new cause) := by
  unfold State.postValveState
  repeat' (first | with_reducible assumption | with_reducible apply Reach.post | split)

theorem Reach.postAuthority (v : Nat) (old new : ValveLive) (cause : AuthorityCause) (h : Reach b s t) :
    Reach b s (t.postAuthority v old new cause) := by
  unfold State.postAuthority
  repeat' (first | with_reducible assumption | with_reducible apply Reach.post | split)

theorem Reach.writeValve (v : Nat) (old new : ValveLive) (h : Reach b s t) :
    Reach b s (t.writeValve v old new) := by
  unfold State.writeValve; try dsimp only [refuse]
  repeat' (first | with_reducible assumption | with_reducible apply Reach.setValve
                  | with_reducible apply Reach.engineValveChange | with_reducible apply Reach.isolationValveChange
                  | split)

theorem Reach.changeValve (v : Nat) (cause : ValveCause) (f : ValveLive → ValveLive) (h : Reach b s t) :
    Reach b s (t.changeValve v cause f) := by
  unfold State.changeValve
  repeat' (first | with_reducible assumption | with_reducible apply Reach.writeValve
                  | with_reducible apply Reach.postValveState | split)

theorem Reach.changeAuthority (v : Nat) (cause : AuthorityCause) (new : Authority) (h : Reach b s t) :
    Reach b s (t.changeAuthority v cause new) := by
  unfold State.changeAuthority
  repeat' (first | with_reducible assumption | with_reducible apply Reach.writeValve
                  | with_reducible apply Reach.postAuthority | split)

theorem Reach.offerSlot (k n : Nat) (h : Reach b s t) : Reach b s (State.offerSlot k n t) := by
  induction n generalizing t with
  | zero => exact h
  | succ n ih =>
    unfold State.offerSlot
    dsimp only
    repeat' split
    · exact Reach.deliverGrant _ _ _ (Reach.takeSlot _ _ _ _ _ _ (Reach.setWaiting _ h))
    · exact ih (Reach.deliverOutcome _ _ _ _ (Reach.postUnslotted _ _ _ _ (Reach.setWaiting _ h)))
    · exact h


theorem Reach.returnRecall (o : Order) (outcome : OrderOutcome) (h : Reach b s t) :
    Reach b s (t.returnRecall o outcome) := by
  unfold State.returnRecall
  repeat' (first | with_reducible assumption | with_reducible apply Reach.changeAuthority | split)

theorem Reach.tellOrigin (o : Order) (outcome : OrderOutcome) (h : Reach b s t) :
    Reach b s (t.tellOrigin o outcome) := by
  unfold State.tellOrigin
  repeat' (first | with_reducible assumption | with_reducible apply Reach.deliverOutcome | split)

theorem Reach.endOrder (k : Nat) (outcome : OrderOutcome) (h : Reach b s t) :
    Reach b s (t.endOrder k outcome) := by
  unfold State.endOrder; try dsimp only [refuse]
  repeat' (first | with_reducible assumption | with_reducible apply Reach.stop
                  | with_reducible apply Reach.setValveSlot | with_reducible apply Reach.returnRecall
                  | with_reducible apply Reach.post | with_reducible apply Reach.tellOrigin
                  | with_reducible apply Reach.setSlot | with_reducible apply Reach.offerSlot | split)

theorem Reach.endDone (k : Nat) (h : Reach b s t) :
    Reach b s (t.endDone k) := by
  unfold State.endDone; try dsimp only [refuse]
  repeat' (first | with_reducible assumption | with_reducible apply Reach.changeValve
                  | with_reducible apply Reach.endOrder | split)

theorem Reach.judgeTarget (v : Nat) (h : Reach b s t) :
    Reach b s (t.judgeTarget v) := by
  unfold State.judgeTarget
  repeat' (first | with_reducible assumption | with_reducible apply Reach.endDone | split)

theorem Reach.judgeSwitch (v : Nat) (on : Bool) (h : Reach b s t) :
    Reach b s (t.judgeSwitch v on) := by
  unfold State.judgeSwitch
  repeat' (first | with_reducible assumption | with_reducible apply Reach.changeAuthority | split)

theorem Reach.judgeMoving (v : Nat) (on : Bool) (h : Reach b s t) :
    Reach b s (t.judgeMoving v on) := by
  unfold State.judgeMoving
  repeat' (first | with_reducible assumption | with_reducible apply Reach.endOrder | split)

theorem Reach.deliverReading (r : ValveReading) (h : Reach b s t) :
    Reach b s (t.deliverReading r) := by
  unfold State.deliverReading; try dsimp only [refuse]
  repeat' (first | with_reducible assumption | with_reducible apply Reach.changeValve
                  | with_reducible apply Reach.judgeTarget | with_reducible apply Reach.judgeSwitch
                  | with_reducible apply Reach.judgeMoving | split)

theorem Reach.deliverReadings (rs : List ValveReading) (h : Reach b s t) :
    Reach b s (t.deliverReadings rs) := by
  unfold State.deliverReadings
  repeat' (first | with_reducible assumption | (with_reducible refine Reach.foldl (fun t a h => ?_) ?_)
                  | with_reducible apply Reach.deliverReading)

theorem Reach.dropLostWaiting (valves : List Nat) (h : Reach b s t) :
    Reach b s (t.dropLostWaiting valves) := by
  unfold State.dropLostWaiting; try dsimp only [refuse]
  repeat' (first | with_reducible assumption | (with_reducible refine Reach.foldl (fun t a h => ?_) ?_)
                  | with_reducible apply Reach.setWaiting | with_reducible apply Reach.postUnslotted
                  | with_reducible apply Reach.deliverOutcome)

theorem Reach.loseValve (own : Option Nat) (v : Nat) (h : Reach b s t) :
    Reach b s (t.loseValve own v) := by
  unfold State.loseValve; try dsimp only [refuse]
  repeat' (first | with_reducible assumption | with_reducible apply Reach.changeValve
                  | with_reducible apply Reach.endOrder | split)

theorem Reach.loseValves (st : Nat) (own : Option Nat) (h : Reach b s t) :
    Reach b s (t.loseValves st own) := by
  unfold State.loseValves; try dsimp only [refuse]
  repeat' (first | with_reducible assumption | (with_reducible refine Reach.foldl (fun t a h => ?_) ?_)
                  | with_reducible apply Reach.loseValve | with_reducible apply Reach.dropLostWaiting)

theorem Reach.modSlot (k : Nat) (f : Order → Order) (h : Reach b s t) :
    Reach b s (t.modSlot k f) := by
  unfold State.modSlot
  repeat' (first | with_reducible assumption | with_reducible apply Reach.setSlot)

theorem Reach.startMoving (k d : Nat) (health : Health) (h : Reach b s t) :
    Reach b s (t.startMoving k d health) := by
  unfold State.startMoving
  repeat' (first | with_reducible assumption | with_reducible apply Reach.modSlot
                  | with_reducible apply Reach.start)

theorem Reach.acceptOrder (k : Nat) (o : Order) (health : Health) (h : Reach b s t) :
    Reach b s (t.acceptOrder k o health) := by
  unfold State.acceptOrder
  repeat' (first | with_reducible assumption | with_reducible apply Reach.endDone
                  | with_reducible apply Reach.changeAuthority | with_reducible apply Reach.startMoving | split)

theorem Reach.retryOrder (k : Nat) (o : Order) (busy : Bool) (h : Reach b s t) :
    Reach b s (t.retryOrder k o busy) := by
  unfold State.retryOrder; try dsimp only [refuse]
  repeat' (first | with_reducible assumption | with_reducible apply Reach.modSlot
                  | with_reducible apply Reach.endOrder | split)

theorem Reach.judgeTransaction (k : Nat) (r : TransactionResult) (health : Health) (h : Reach b s t) :
    Reach b s (t.judgeTransaction k r health) := by
  unfold State.judgeTransaction; try dsimp only [refuse]
  repeat' (first | with_reducible assumption | with_reducible apply Reach.endOrder
                  | with_reducible apply Reach.acceptOrder | with_reducible apply Reach.changeAuthority
                  | with_reducible apply Reach.changeValve | with_reducible apply Reach.retryOrder | split)

theorem Reach.orderExpiry (k : Nat) (h : Reach b s t) :
    Reach b s (t.orderExpiry k) := by
  unfold State.orderExpiry
  repeat' (first | with_reducible assumption | with_reducible apply Reach.changeValve
                  | with_reducible apply Reach.endOrder | split)

theorem Reach.takeHostOrder (v : Nat) (a : Action) (priority : Nat) (oneShot : Bool) (h : Reach b s t) :
    Reach b s (t.takeHostOrder v a priority oneShot).1 := by
  unfold State.takeHostOrder; try dsimp only [refuse]
  repeat' (first | with_reducible assumption | with_reducible apply Reach.post
                  | with_reducible apply Reach.takeSlot | split)

theorem Reach.hostOrder (v : Nat) (action : Option Action) (priority oneShot : Nat) (h : Reach b s t) :
    Reach b s (t.hostOrder v action priority oneShot).1 := by
  unfold State.hostOrder; try dsimp only [refuse]
  repeat' (first | with_reducible assumption | with_reducible apply Reach.takeHostOrder | split)

theorem Reach.valveEntryRequest (v position : Nat) (h : Reach b s t) :
    Reach b s (t.valveEntryRequest v position).1 := by
  unfold State.valveEntryRequest; try dsimp only [refuse]
  repeat' (first | with_reducible assumption | with_reducible apply Reach.changeValve | split)

theorem Reach.inhibitRequest (v inhibit clearFault : Nat) (h : Reach b s t) :
    Reach b s (t.inhibitRequest v inhibit clearFault).1 := by
  unfold State.inhibitRequest; try dsimp only [refuse]
  repeat' (first | with_reducible assumption | with_reducible apply Reach.changeValve | split)

theorem Reach.abortRequest (k : Nat) (h : Reach b s t) :
    Reach b s (t.abortRequest k).1 := by
  unfold State.abortRequest; try dsimp only [refuse]
  repeat' (first | with_reducible assumption | with_reducible apply Reach.endOrder
                  | with_reducible apply Reach.modSlot | split)

theorem Reach.endWaitingList (o : OrderOutcome) (h : Reach b s t) :
    Reach b s (t.endWaitingList o) := by
  unfold State.endWaitingList
  repeat' (first | with_reducible assumption | (with_reducible refine Reach.foldl (fun t a h => ?_) ?_)
                  | with_reducible apply Reach.postUnslotted | with_reducible apply Reach.deliverOutcome
                  | with_reducible apply Reach.setWaiting)

theorem Reach.endIfWaiting (o : OrderOutcome) (k : Nat) (h : Reach b s t) :
    Reach b s (t.endIfWaiting o k) := by
  unfold State.endIfWaiting
  repeat' (first | with_reducible assumption | with_reducible apply Reach.endOrder | split)

theorem Reach.endWaiting (o : OrderOutcome) (h : Reach b s t) :
    Reach b s (t.endWaiting o) := by
  unfold State.endWaiting
  repeat' (first | with_reducible assumption | (with_reducible refine Reach.foldl (fun t a h => ?_) ?_)
                  | with_reducible apply Reach.endIfWaiting | with_reducible apply Reach.endWaitingList)

theorem Reach.abortSent (k : Nat) (h : Reach b s t) :
    Reach b s (t.abortSent k) := by
  unfold State.abortSent
  repeat' (first | with_reducible assumption | with_reducible apply Reach.modSlot)

theorem Reach.holdRequest  (h : Reach b s t) :
    Reach b s t.holdRequest.1 := by
  unfold State.holdRequest; try dsimp only [refuse]
  repeat' (first | with_reducible assumption | (with_reducible refine Reach.foldl (fun t a h => ?_) ?_)
                  | with_reducible apply Reach.vou | with_reducible apply Reach.endWaiting
                  | with_reducible apply Reach.abortSent | split)

theorem Reach.releaseHoldRequest  (h : Reach b s t) :
    Reach b s t.releaseHoldRequest.1 := by
  unfold State.releaseHoldRequest; try dsimp only [refuse]
  repeat' (first | with_reducible assumption | with_reducible apply Reach.vou | split)

theorem Reach.startValves  (h : Reach b s t) :
    Reach b s t.startValves := by
  unfold State.startValves
  repeat' (first | with_reducible assumption | with_reducible apply Reach.vou)

theorem Reach.stopValves  (h : Reach b s t) :
    Reach b s t.stopValves := by
  unfold State.stopValves
  repeat' (first | with_reducible assumption | with_reducible apply Reach.vou)

theorem Reach.readOrders  (h : Reach b s t) :
    Reach b s t.readOrders.1 := by
  unfold State.readOrders
  exact h

theorem Reach.judgeAutoPlan (serial : Nat) (h : Reach b s t) :
    Reach b s (t.judgeAutoPlan serial) := by
  unfold State.judgeAutoPlan
  repeat' (first | with_reducible assumption | with_reducible apply Reach.autoPlan | split)

theorem Reach.adjustDeadline (slot : Nat) (p : GradeParams) (h : Reach b s t) :
    Reach b s (t.adjustDeadline slot p) := by
  unfold State.adjustDeadline
  repeat' (first | with_reducible assumption | with_reducible apply Reach.stop
                  | with_reducible apply Reach.start | split)

theorem Reach.upgrade (i : Incident) (g : Grade) (cause : UpgradeCause) (h : Reach b s t) :
    Reach b s (t.upgrade i g cause) := by
  unfold State.upgrade; try dsimp only [refuse]
  repeat' (first | with_reducible assumption | with_reducible apply Reach.setIncident
                  | with_reducible apply Reach.adjustDeadline | with_reducible apply Reach.post
                  | with_reducible apply Reach.judgeAutoPlan)

theorem Reach.recomputeGrade (serial : Nat) (cause : UpgradeCause) (h : Reach b s t) :
    Reach b s (t.recomputeGrade serial cause) := by
  unfold State.recomputeGrade; try dsimp only [refuse]
  repeat' (first | with_reducible assumption | with_reducible apply Reach.upgrade
                  | with_reducible apply Reach.setIncident | with_reducible apply Reach.post | split)

theorem Reach.createIncident (n : NewIncident) (slot : Nat) (h : Reach b s t) :
    Reach b s (t.createIncident n slot).1 := by
  unfold State.createIncident; try dsimp only [refuse]
  repeat' (first | with_reducible assumption | with_reducible apply Reach.it
                  | with_reducible apply Reach.startChannelOnce | with_reducible apply Reach.post
                  | with_reducible apply Reach.judgeAutoPlan | split)

theorem Reach.attachCall (i : Incident) (call : CallRec) (h : Reach b s t) :
    Reach b s (t.attachCall i call).1 := by
  unfold State.attachCall; try dsimp only [refuse]
  repeat' (first | with_reducible assumption | with_reducible apply Reach.setIncident
                  | with_reducible apply Reach.recomputeGrade | with_reducible apply Reach.post
                  | with_reducible apply Reach.judgeAutoPlan)

theorem Reach.openForCall (call : CallRec) (linked : Option Nat) (h : Reach b s t) :
    Reach b s (t.openForCall call linked).1 := by
  unfold State.openForCall; try dsimp only [refuse]
  repeat' (first | with_reducible assumption | with_reducible apply Reach.createIncident | split)

theorem Reach.matchCall (call : CallRec) (h : Reach b s t) :
    Reach b s (t.matchCall call).1 := by
  unfold State.matchCall; try dsimp only [refuse]
  repeat' (first | with_reducible assumption | with_reducible apply Reach.attachCall
                  | with_reducible apply Reach.openForCall | split)

theorem Reach.takeCall (call : CallRec) (h : Reach b s t) :
    Reach b s (t.takeCall call).1 := by
  unfold State.takeCall; try dsimp only [refuse]
  repeat' (first | with_reducible assumption | with_reducible apply Reach.matchCall
                  | with_reducible apply Reach.countNoGas | split)

theorem Reach.callRequest (reference kind key presence segment : Nat) (h : Reach b s t) :
    Reach b s (t.callRequest reference kind key presence segment).1 := by
  unfold State.callRequest; try dsimp only [refuse]
  repeat' (first | with_reducible assumption | with_reducible apply Reach.takeCall | split)

theorem Reach.offerFall (point seg : Nat) (h : Reach b s t) :
    Reach b s (t.offerFall point seg) := by
  unfold State.offerFall
  repeat' (first | with_reducible assumption | with_reducible apply Reach.post
                  | with_reducible apply Reach.createIncident | split)

theorem Reach.incidentExpiry (slot : Nat) (h : Reach b s t) :
    Reach b s (t.incidentExpiry slot) := by
  unfold State.incidentExpiry; try dsimp only [refuse]
  repeat' (first | with_reducible assumption | with_reducible apply Reach.setIncident
                  | with_reducible apply Reach.post | with_reducible apply Reach.start | split)

theorem Reach.attendRequest (serial : Nat) (h : Reach b s t) :
    Reach b s (t.attendRequest serial).1 := by
  unfold State.attendRequest State.withSerial; try dsimp only [refuse]
  repeat' (first | with_reducible assumption | with_reducible apply Reach.setIncident
                  | with_reducible apply Reach.stop | split)

theorem Reach.madeSafeRequest (serial : Nat) (h : Reach b s t) :
    Reach b s (t.madeSafeRequest serial).1 := by
  unfold State.madeSafeRequest State.withSerial; try dsimp only [refuse]
  repeat' (first | with_reducible assumption | with_reducible apply Reach.setIncident
                  | with_reducible apply Reach.stop | split)

theorem Reach.closeIncidentRequest (serial : Nat) (h : Reach b s t) :
    Reach b s (t.closeIncidentRequest serial).1 := by
  unfold State.closeIncidentRequest State.withSerial; try dsimp only [refuse]
  repeat' (first | with_reducible assumption | with_reducible apply Reach.stop | with_reducible apply Reach.post
                  | with_reducible apply Reach.it | split)

theorem Reach.floorRequest (serial value : Nat) (h : Reach b s t) :
    Reach b s (t.floorRequest serial value).1 := by
  unfold State.floorRequest State.withSerial; try dsimp only [refuse]
  repeat' (first | with_reducible assumption | with_reducible apply Reach.setIncident
                  | with_reducible apply Reach.recomputeGrade | split)

theorem Reach.readIncident (serial : Nat) (h : Reach b s t) :
    Reach b s (t.readIncident serial).1 := by
  unfold State.readIncident State.withSerial; repeat' split
  all_goals exact h

theorem Reach.postZone (p seg : Nat) (old : Zone) (x : PointLive) (h : Reach b s t) :
    Reach b s (t.postZone p seg old x) := by
  unfold State.postZone; try dsimp only [refuse]
  repeat' (first | with_reducible assumption | with_reducible apply Reach.post | split)

theorem Reach.postFall (p seg : Nat) (y x : PointLive) (rec : PointRec) (h : Reach b s t) :
    Reach b s (t.postFall p seg y x rec) := by
  unfold State.postFall
  repeat' (first | with_reducible assumption | with_reducible apply Reach.post
                  | with_reducible apply Reach.offerFall | split)

theorem Reach.setPoint (p : Nat) (x : PointLive) (h : Reach b s t) :
    Reach b s (t.setPoint p x) := by
  unfold State.setPoint
  repeat' (first | with_reducible assumption | with_reducible apply Reach.pe)

theorem Reach.postPoint (p seg : Nat) (old new : PointState) (cause : PointCause) (f : Option Nat) (zone : Option
      Zone) (h : Reach b s t) :
    Reach b s (t.postPoint p seg old new cause f zone) := by
  unfold State.postPoint
  repeat' (first | with_reducible assumption | with_reducible apply Reach.post | split)

theorem Reach.offer (p seg : Nat) (x : PointLive) (h : Reach b s t) :
    Reach b s (t.offer p seg x) := by
  unfold State.offer
  repeat' (first | with_reducible assumption | with_reducible apply Reach.offerSample | split)

theorem Reach.sample (t0 : Time) (p raw : Nat) (h : Reach b s t) :
    Reach b s (t.sample t0 p raw) := by
  unfold State.sample; try dsimp only [refuse]
  repeat' (first | with_reducible assumption | with_reducible apply Reach.setPoint
                  | with_reducible apply Reach.postPoint | with_reducible apply Reach.offer
                  | with_reducible apply Reach.postZone | with_reducible apply Reach.postFall | split)

theorem Reach.deriveCondition (seg : Nat) (h : Reach b s t) :
    Reach b s (t.deriveCondition seg) := by
  unfold State.deriveCondition; try dsimp only [refuse]
  repeat' (first | with_reducible assumption | with_reducible apply Reach.pe
                  | with_reducible apply Reach.deliverCondition | split)

theorem Reach.deriveFor (points : List Nat) (h : Reach b s t) :
    Reach b s (t.deriveFor points) := by
  unfold State.deriveFor
  repeat' (first | with_reducible assumption | (with_reducible refine Reach.foldl (fun t a h => ?_) ?_)
                  | with_reducible apply Reach.deriveCondition)

theorem Reach.deliverSamples (t0 : Time) (samples : List (Nat × Nat)) (h : Reach b s t) :
    Reach b s (t.deliverSamples t0 samples) := by
  unfold State.deliverSamples; try dsimp only [refuse]
  repeat' (first | with_reducible assumption | (with_reducible refine Reach.foldl (fun t a h => ?_) ?_)
                  | with_reducible apply Reach.sample | with_reducible apply Reach.deriveFor)

theorem Reach.tellStaleOf (p seg : Nat) (h : Reach b s t) :
    Reach b s (t.tellStaleOf p seg) := by
  unfold State.tellStaleOf
  repeat' (first | with_reducible assumption | with_reducible apply Reach.tellStale | split)

theorem Reach.makeStale (cause : PointCause) (p : Nat) (h : Reach b s t) :
    Reach b s (t.makeStale cause p) := by
  unfold State.makeStale; try dsimp only [refuse]
  repeat' (first | with_reducible assumption | with_reducible apply Reach.setPoint
                  | with_reducible apply Reach.postPoint | with_reducible apply Reach.tellStaleOf | split)

theorem Reach.cycleComplete (line : Nat) (h : Reach b s t) :
    Reach b s (t.cycleComplete line) := by
  unfold State.cycleComplete; try dsimp only [refuse]
  repeat' (first | with_reducible assumption | (with_reducible refine Reach.foldl (fun t a h => ?_) ?_)
                  | with_reducible apply Reach.makeStale | with_reducible apply Reach.deriveFor)

theorem Reach.losePoints (st : Nat) (h : Reach b s t) :
    Reach b s (t.losePoints st) := by
  unfold State.losePoints; try dsimp only [refuse]
  repeat' (first | with_reducible assumption | (with_reducible refine Reach.foldl (fun t a h => ?_) ?_)
                  | with_reducible apply Reach.makeStale | with_reducible apply Reach.deriveFor)

theorem Reach.startPressure  (h : Reach b s t) :
    Reach b s t.startPressure := by
  unfold State.startPressure
  repeat' (first | with_reducible assumption | with_reducible apply Reach.pe)

theorem Reach.stopPressure  (h : Reach b s t) :
    Reach b s t.stopPressure := by
  unfold State.stopPressure
  repeat' (first | with_reducible assumption | with_reducible apply Reach.pe)

theorem Reach.count (st : Nat) (n : StatName) (h : Reach true s t) :
    Reach true s (t.count st n) := by
  unfold State.count; try dsimp only [refuse]
  repeat' (first | with_reducible assumption | with_reducible apply Reach.setStation
                  | with_reducible apply Reach.post | split)

theorem Reach.sendOrder (line st k : Nat) (h : Reach true s t) :
    Reach true s (t.sendOrder line st k) := by
  unfold State.sendOrder; try dsimp only [refuse]
  repeat' (first | with_reducible assumption | with_reducible apply Reach.setController
                  | with_reducible apply Reach.modSlot | with_reducible apply Reach.count)

theorem Reach.sendScan (line : Nat) (h : Reach true s t) :
    Reach true s (t.sendScan line) := by
  unfold State.sendScan; try dsimp only [refuse]
  repeat' (first | with_reducible assumption | with_reducible apply Reach.setController | split)

theorem Reach.handBack (line k : Nat) (h : Reach b s t) :
    Reach b s (t.handBack line k) := by
  unfold State.handBack
  repeat' (first | with_reducible assumption | with_reducible apply Reach.endOrder | split)

theorem Reach.chooseOrder (line : Nat) (h : Reach true s t) :
    Reach true s (t.chooseOrder line) := by
  unfold State.chooseOrder; try dsimp only [refuse]
  repeat' (first | with_reducible assumption | (with_reducible refine Reach.foldl (fun t a h => ?_) ?_)
                  | with_reducible apply Reach.handBack | with_reducible apply Reach.sendOrder
                  | with_reducible apply Reach.sendScan | split)

theorem Reach.chooseTransaction (line : Nat) (h : Reach true s t) :
    Reach true s (t.chooseTransaction line) := by
  unfold State.chooseTransaction
  repeat' (first | with_reducible assumption | with_reducible apply Reach.sendScan
                  | with_reducible apply Reach.chooseOrder | split)

theorem Reach.endPass (line : Nat) (h : Reach true s t) :
    Reach true s (t.endPass line) := by
  unfold State.endPass; try dsimp only [refuse]
  repeat' (first | with_reducible assumption | with_reducible apply Reach.setController
                  | with_reducible apply Reach.cycleComplete)

theorem Reach.advanceScan (line address : Nat) (h : Reach true s t) :
    Reach true s (t.advanceScan line address) := by
  unfold State.advanceScan
  repeat' (first | with_reducible assumption | with_reducible apply Reach.setController
                  | with_reducible apply Reach.endPass | split)

theorem Reach.gateStation (st : Nat) (gateOpen : Bool) (h : Reach b s t) :
    Reach b s (t.gateStation st gateOpen) := by
  unfold State.gateStation
  repeat' (first | with_reducible assumption | (with_reducible refine Reach.foldl (fun t a h => ?_) ?_)
                  | with_reducible apply Reach.gate | split)

theorem Reach.enterLost (st : Nat) (own : Option Nat) (y0 : DeliveryOrder) (h : Reach b s t) :
    Reach b s (t.enterLost st own y0) := by
  unfold State.enterLost
  repeat' (first | with_reducible assumption | with_reducible apply Reach.losePoints
                  | with_reducible apply Reach.loseValves | split)

theorem Reach.postHealth (st : Nat) (old new : StationLive) (h : Reach b s t) :
    Reach b s (t.postHealth st old new) := by
  unfold State.postHealth
  repeat' (first | with_reducible assumption | with_reducible apply Reach.post | split)

theorem Reach.healthChanged (st : Nat) (old new : StationLive) (own : Option Nat) (order : DeliveryOrder) (h :
      Reach b s t) :
    Reach b s (t.healthChanged st old new own order) := by
  unfold State.healthChanged; try dsimp only [refuse]
  repeat' (first | with_reducible assumption | with_reducible apply Reach.postHealth
                  | with_reducible apply Reach.gateStation | with_reducible apply Reach.enterLost | split)

theorem Reach.updateHealth (st : Nat) (good scan : Bool) (own : Option Nat) (order : DeliveryOrder) (h : Reach true
      s t) :
    Reach true s (t.updateHealth st good scan own order) := by
  unfold State.updateHealth; try dsimp only [refuse]
  repeat' (first | with_reducible assumption | with_reducible apply Reach.setStation
                  | with_reducible apply Reach.healthChanged)

theorem Reach.startLine (line : Nat) (h : Reach true s t) :
    Reach true s (t.startLine line) := by
  unfold State.startLine
  repeat' (first | with_reducible assumption | with_reducible apply Reach.setController
                  | with_reducible apply Reach.chooseTransaction | split)

theorem Reach.startLines  (h : Reach true s t) :
    Reach true s t.startLines := by
  unfold State.startLines
  repeat' (first | with_reducible assumption | (with_reducible refine Reach.foldl (fun t a h => ?_) ?_)
                  | with_reducible apply Reach.startLine)

theorem Reach.stopLines  (h : Reach true s t) :
    Reach true s t.stopLines := by
  unfold State.stopLines
  repeat' (first | with_reducible assumption | exact rfl | with_reducible apply Reach.flc)

end Sys2Proof.Machine
end

