-- ==== Sys2Proof/Laws/Kept.lean ====
section
/-! SUPPORT. What `Reach` keeps: the blocks it does not write, the Timer Bank's channels within R174, and the Notice
Queues' counters (R184). -/
namespace Sys2Proof.Machine

variable {b : Bool} {s t u : State}

theorem Reach.trans (h : Reach b s t) (h' : Reach b t u) : Reach b s u := by
  induction h' with
  | refl => exact h
  | post _ c n ih => exact ih.post c n
  | start _ n d m g ih => exact ih.start n d m g
  | stop _ n ih => exact ih.stop n
  | gate _ n g ih => exact ih.gate n g
  | pe _ x ih => exact ih.pe x
  | vou _ x ih => exact ih.vou x
  | me _ x ih => exact ih.me x
  | it _ x ih => exact ih.it x
  | iu _ x ih => exact ih.iu x
  | ou _ x ih => exact ih.ou x
  | flc _ hl x ih => exact ih.flc hl x

theorem Reach.keeps_ms (h : Reach b s t) : t.ms = s.ms := by induction h <;> simp_all
theorem Reach.keeps_crl (h : Reach b s t) : t.crl = s.crl := by induction h <;> simp_all
theorem Reach.keeps_pending (h : Reach b s t) : t.pending = s.pending := by induction h <;> simp_all
theorem Reach.keeps_mode (h : Reach b s t) : t.mode = s.mode := by simp [State.mode, h.keeps_crl]

theorem Reach.keeps_time (h : Reach b s t) : t.tb.time = s.tb.time := by
  induction h <;> simp_all [State.startChannel, State.stopChannel, State.gateChannel, TimerBank.command]

/-- No operation of a block takes an expiry off the list or adds one (R179). -/
theorem Reach.keeps_due (h : Reach b s t) : t.tb.due = s.tb.due := by
  induction h <;> simp_all [State.startChannel, State.stopChannel, State.gateChannel, TimerBank.command]

theorem Reach.keeps_flc (h : Reach false s t) : t.flc = s.flc := by induction h <;> simp_all

/-! ## The Timer Bank -/

theorem prescaleOf_bounds (d : Nat) : 1 ≤ prescaleOf d ∧ prescaleOf d ≤ 64 := by
  unfold prescaleOf clampDuration clamp Config.longestDuration; omega

theorem reloadOf_bounds (d : Nat) : 1 ≤ reloadOf d ∧ reloadOf d ≤ 65535 := by
  obtain ⟨h1, h2⟩ := prescaleOf_bounds d
  have hd : 1 ≤ clampDuration d := by unfold clampDuration clamp; omega
  have hp : clampDuration d ≤ 65535 * prescaleOf d := by unfold prescaleOf; omega
  unfold reloadOf
  constructor
  · exact (Nat.one_le_div_iff (by omega)).2 (by omega)
  · refine Nat.le_of_lt_succ ((Nat.div_lt_iff_lt_mul (by omega)).2 ?_)
    show _ < 65536 * prescaleOf d
    omega

theorem Channel.sound_loaded (d : Nat) (m : TimerMode) (g : Bool) : (Channel.loaded d m g).Sound := by
  have := prescaleOf_bounds d; have := reloadOf_bounds d
  simp [Channel.Sound, Channel.loaded]; omega

theorem Channel.sound_stop {c : Channel} (h : c.Sound) : c.stop.Sound := by
  unfold Channel.stop; split <;> simp_all [Channel.Sound]

theorem Channel.sound_gate {c : Channel} (h : c.Sound) (g : Bool) : (c.gate g).Sound := by
  unfold Channel.gate; split <;> simp_all [Channel.Sound]

theorem TimerBank.sound_set {v : Vector Channel 84} (h : ∀ c ∈ v, c.Sound) (n : Nat) {c : Channel} (hc : c.Sound) :
    ∀ x ∈ v.setIfInBounds n c, x.Sound := by
  intro x hx
  obtain ⟨i, hi, rfl⟩ := Vector.mem_iff_getElem.1 hx
  rw [Vector.getElem_setIfInBounds]
  split
  · exact hc
  · exact h _ (Vector.getElem_mem _)

theorem Channel.sound_reset : Channel.reset.Sound := by simp [Channel.Sound, Channel.reset]

theorem TimerBank.sound_channel (h : s.tb.Sound) (n : Nat) : (s.channel n).Sound := by
  unfold State.channel Vector.getD
  rcases hn : s.tb.channels[n]? with _ | c
  · simpa [hn] using Channel.sound_reset
  · simpa [hn] using h c (Vector.mem_of_getElem? hn)

theorem Reach.keeps_channels (h : Reach b s t) (hs : s.tb.Sound) : t.tb.Sound := by
  induction h with
  | start _ n d m g ih => exact TimerBank.sound_set ih n (Channel.sound_loaded d m g)
  | stop _ n ih => exact TimerBank.sound_set ih n (Channel.sound_stop (TimerBank.sound_channel ih n))
  | gate _ n g ih => exact TimerBank.sound_set ih n (Channel.sound_gate (TimerBank.sound_channel ih n) g)
  | _ => simp_all

/-! ## The Notice Queues -/

theorem NoticeQueues.queue_setQueue (q : NoticeQueues) (x : ClassQueue) (c d : NoticeClass) :
    (q.setQueue x c).queue d = if d = c then x else q.queue d := by
  cases c <;> cases d <;> rfl

theorem ClassQueue.sound_accept {q : ClassQueue} {capacity : Nat} (h : q.Sound capacity) (n : Notice) :
    (q.accept capacity n).Sound capacity := by
  obtain ⟨hg, hc, ho⟩ := h
  unfold ClassQueue.accept
  split
  · refine ⟨?_, by simp; omega, ho⟩
    simp only [hg, List.length_append, List.length_singleton]
    rw [BitVec.ofNat_add]; ac_rfl
  · refine ⟨by simp only [hg]; ac_rfl, hc, ?_⟩
    cases q.drops <;> simp

theorem serialAfter_ne_zero (n : BitVec 32) : serialAfter n ≠ 0 := by
  unfold serialAfter; split
  · decide
  · bv_omega

theorem NoticeQueues.sound_post {q : NoticeQueues} (h : q.Sound) (c : NoticeClass) (time : Time) (body : NoticeBody) :
    (q.post c time body).Sound := by
  obtain ⟨hq, hp, hs⟩ := h
  refine ⟨fun d => ?_, ?_, serialAfter_ne_zero _⟩
  · have : (q.post c time body).queue d = if d = c then (q.queue c).accept c.capacity ⟨q.nextSerial, c, time, body⟩
        else q.queue d := by
      cases c <;> cases d <;> rfl
    rw [this]; split
    · next e => subst e; exact ClassQueue.sound_accept (hq d) _
    · exact hq d
  · cases c <;> exact hp

theorem Reach.keeps_notices (h : Reach b s t) (hs : s.nq.Sound) : t.nq.Sound := by
  induction h with
  | post _ c n ih => exact NoticeQueues.sound_post ih c _ n
  | _ => simp_all

end Sys2Proof.Machine
end

