-- ==== Sys2Proof/Laws/Requests.lean ====
section
/-! SUPPORT. Bytes and numbers round trip (R202), and what a taken request leads to (R192, R193). -/
namespace Sys2Proof.Machine

@[simp] theorem length_bytesOf (w n : Nat) : (bytesOf w n).length = w := by
  induction w generalizing n with
  | zero => rfl
  | succ w ih => simp [bytesOf, ih]

theorem numberOf_append (l : List Byte) (b : Byte) : numberOf (l ++ [b]) = numberOf l * 256 + b.toNat := by
  simp [numberOf]

/-- The number that its own bytes give, modulo what the width holds. -/
theorem numberOf_bytesOf (w n : Nat) : numberOf (bytesOf w n) = n % 256 ^ w := by
  induction w generalizing n with
  | zero => simp [bytesOf, numberOf, Nat.mod_one]
  | succ w ih =>
    rw [bytesOf, numberOf_append, ih, Nat.pow_succ', Nat.mod_mul, BitVec.toNat_ofNat]
    omega

/-- Splitting the body that some numbers make by the widths of its fields gives the numbers back (R202). -/
theorem splitFields_joinFields (ws ns : List Nat) (h : fits ws ns) : splitFields ws (joinFields ws ns) = some ns := by
  induction ws generalizing ns with
  | nil => cases ns <;> simp_all [fits, joinFields, splitFields]
  | cons w ws ih =>
    cases ns with
    | nil => simp [fits] at h
    | cons n ns =>
      simp only [fits] at h
      simp [joinFields, splitFields, numberOf_bytesOf, ih ns h.2, Nat.mod_eq_of_lt h.1]

theorem length_splitFields (ws : List Nat) (body : List Byte) (ns : List Nat) (h : splitFields ws body = some ns) :
    body.length = ws.sum := by
  induction ws generalizing body ns with
  | nil => cases body <;> simp_all [splitFields]
  | cons w ws ih =>
    simp only [splitFields] at h
    split at h
    · simp at h
    · obtain ⟨m, hm, -⟩ := Option.map_eq_some_iff.1 h
      have := ih _ _ hm
      simp only [List.length_drop] at this
      simp only [List.sum_cons]; omega

/-- A body splits by widths exactly when it has their length. -/
theorem splitFields_isSome (ws : List Nat) (body : List Byte) :
    (splitFields ws body).isSome = true ↔ body.length = ws.sum := by
  induction ws generalizing body with
  | nil => cases body <;> simp [splitFields]
  | cons w ws ih =>
    simp only [splitFields]
    split
    · simp only [List.sum_cons]; constructor
      · simp
      · omega
    · simp only [Option.isSome_map, ih, List.length_drop, List.sum_cons]; omega

/-- Where no expiry is left to deliver, a command finds the state as it is. -/
theorem State.deliverDue_nil {s : State} (h : s.tb.due = []) : s.deliverDue = s := by simp [State.deliverDue, h]

/-- A command finds the part in the state with its expiries delivered, or the part is held. -/
theorem State.finds_or_held (s : State) : s.Finds s.deliverDue ∨ s.crl.held = true := by
  cases h : s.crl.held
  · exact .inl ⟨h, rfl⟩
  · exact .inr rfl

/-- A command of the clock, the field or an engine acts on the state it finds. -/
theorem State.afterDue_of_finds {s d : State} (h : s.Finds d) (f : State → State) : s.afterDue f = f d := by
  obtain ⟨held, rfl⟩ := h
  simp [State.afterDue, State.unlessHeld, held]

/-- A request the part takes is handled in the state without its frame (R192). -/
theorem State.request_of_takes {s s₀ : State} {r : Request} (h : s.Takes r s₀) (owner : List Nat → State → Answered) :
    s.request r owner = s₀.handle r owner := by
  obtain ⟨_, ⟨held, rfl⟩, ⟨hl, rfl⟩ | ⟨rest, hl, rfl⟩⟩ := h <;> simp [State.request, held, hl]

/-- A request that the part does not take changes nothing where the part is held; otherwise it joins the request list, or
counts a link error, in the state it finds (R192). -/
theorem State.request_cases (s : State) (r : Request) (owner : List Nat → State → Answered) :
    (∃ s₀, s.Takes r s₀ ∧ s.request r owner = s₀.handle r owner)
      ∨ s.request r owner = s
      ∨ s.request r owner = s.deliverDue.withCrl (s.deliverDue.crl.join r) := by
  rcases s.finds_or_held with hf | held
  · cases hl : s.deliverDue.crl.requests with
    | nil =>
      have ht : s.Takes r s.deliverDue := ⟨_, hf, .inl ⟨hl, rfl⟩⟩
      exact .inl ⟨_, ht, State.request_of_takes ht owner⟩
    | cons q rest =>
      by_cases e : q = r
      · subst e
        have ht : s.Takes q _ := ⟨_, hf, .inr ⟨rest, hl, rfl⟩⟩
        exact .inl ⟨_, ht, State.request_of_takes ht owner⟩
      · exact .inr (.inr (by simp [State.request, hf.1, hl, e]))
  · exact .inr (.inl (by simp [State.request, held]))

/-- A request whose body is of its kind's widths reaches its owner with the numbers of its fields (R193). -/
theorem State.handle_fields (s : State) {r : Request} {ws ns : List Nat} (owner : List Nat → State → Answered)
    (hw : requestWidths r.kind r.body = some ws) (hs : splitFields ws r.body = some ns) :
    s.handle r owner = State.reply r.kind r.tag (owner ns s) := by
  simp [State.handle, hw, hs]

/-- What a request does: it is refused by the link block, or its owner handles its fields, and a reply is sent. -/
theorem State.handle_cases (s : State) (r : Request) (owner : List Nat → State → Answered) :
    s.handle r owner = State.reply r.kind r.tag (s, .unknownKind, .empty)
      ∨ s.handle r owner = State.reply r.kind r.tag (s, .length, .empty)
      ∨ ∃ ns, s.handle r owner = State.reply r.kind r.tag (owner ns s) := by
  unfold State.handle
  split
  · exact .inl rfl
  · split
    · exact .inr (.inl rfl)
    · exact .inr (.inr ⟨_, rfl⟩)

/-- The reply to a request of the catalogue (R193). -/
theorem State.reply_eq (kind tag : Byte) (r : Answered) (h : kind < 0x80#8) :
    State.reply kind tag r = r.1.answered kind tag r.2.1 r.2.2 := by
  have : ¬ 0x80#8 ≤ kind := by simpa using h
  simp [State.reply, State.answered, replyKind, this]

/-- A taken request of the catalogue with the numbers of its fields: its owner's answer is the reply. -/
theorem State.request_answers {s s₀ : State} {kind tag : Byte} {body : List Byte} {ws ns : List Nat}
    (h : s.Takes ⟨kind, tag, body⟩ s₀) (owner : List Nat → State → Answered)
    (hk : kind < 0x80#8) (hw : requestWidths kind body = some ws) (hs : splitFields ws body = some ns) :
    s.request ⟨kind, tag, body⟩ owner
      = (owner ns s₀).1.answered kind tag (owner ns s₀).2.1 (owner ns s₀).2.2 := by
  rw [State.request_of_takes h, State.handle_fields s₀ (r := ⟨kind, tag, body⟩) owner hw hs, State.reply_eq _ _ _ hk]

/-- A kind that is not in the catalogue has no widths (R193 step 1). -/
theorem requestWidths_none (k : Byte) (h : catalogue.contains k.toNat = false) (body : List Byte) :
    requestWidths k body = none := by
  unfold requestWidths
  generalize k.toNat = n at h
  split
  all_goals first
    | rfl
    | exact absurd h (by decide)

/-- A kind of the catalogue has widths, whatever the body. -/
theorem requestWidths_isSome (k : Byte) (h : catalogue.contains k.toNat = true) (body : List Byte) :
    (requestWidths k body).isSome = true := by
  unfold requestWidths
  generalize k.toNat = n at h
  split
  all_goals first
    | rfl
    | (exfalso; simp [catalogue] at h; simp_all)

end Sys2Proof.Machine
end

