-- ==== Sys2Proof/Laws/Exec.lean ====
section
/-! SUPPORT. What a command can do to the whole state: `Moves` says it once, and `exec_moves` gives it for every
command. -/
namespace Sys2Proof.Machine

/-- The state `t` follows from `s` by operations of the blocks (`Reach`), writes of the link and of the Model Store, a
tick, the taking of an expiry, a fetch, and writes of the two parameters of the Notice Queues. -/
inductive Moves (s : State) : State → Prop
  | refl : Moves s s
  | reach {t u : State} (h : Moves s t) (hr : Reach true t u) : Moves s u
  | crl {t : State} (h : Moves s t) (x : Link) : Moves s (t.withCrl x)
  | ms {t : State} (h : Moves s t) (x : ModelStore) : Moves s (t.withMs x)
  | tick {t : State} (h : Moves s t) : Moves s t.tickBank
  | due {t : State} (h : Moves s t) (l : List Nat) : Moves s (t.withTb { t.tb with due := l })
  | fetch {t : State} (h : Moves s t) (n : Nat) : Moves s (t.fetchRequest n).1
  | order {t : State} (h : Moves s t) {codes : List Nat} {o : List NoticeClass} (ho : classOrderOf codes = some o) :
      Moves s (t.withNq { t.nq with classOrder := o })
  | mask {t : State} (h : Moves s t) (m : ClassMask) : Moves s (t.withNq { t.nq with mask := m })

variable {s t u : State}

theorem Moves.trans (h : Moves s t) (h' : Moves t u) : Moves s u := by
  induction h' with
  | refl => exact h
  | reach _ hr ih => exact ih.reach hr
  | crl _ x ih => exact ih.crl x
  | ms _ x ih => exact ih.ms x
  | tick _ ih => exact ih.tick
  | due _ l ih => exact ih.due l
  | fetch _ n ih => exact ih.fetch n
  | order _ ho ih => exact ih.order ho
  | mask _ m ih => exact ih.mask m

theorem Reach.widen {b : Bool} (h : Reach b s t) : Reach true s t := by
  induction h with
  | refl => exact .refl
  | post _ c n ih => exact ih.post c n
  | start _ n d m g ih => exact ih.start n d m g
  | stop _ n ih => exact ih.stop n
  | gate _ n g ih => exact ih.gate n g
  | pe _ x ih => exact ih.pe x
  | vou _ x ih => exact ih.vou x
  | me _ x ih => exact ih.me x
  | it _ x ih => exact ih.it x
  | iu _ x ih => exact ih.iu x
  | ou _ x ih => exact ih.ou x
  | flc _ _ x ih => exact ih.flc rfl x

theorem Moves.of (h : Reach true s t) : Moves s t := Moves.refl.reach h

/-! ## Modes, parameters and the model -/

theorem Moves.oneField {f : State → Nat → Answered} (h : ∀ t n, Moves t (f t n).1) (ns : List Nat) (t : State) :
    Moves t (oneField f ns t).1 := by
  unfold Sys2Proof.Machine.oneField; split
  · exact h _ _
  · exact .refl

/-- A change of mode. -/
theorem Moves.enterConfigure : Moves s s.enterConfigure := by
  unfold State.enterConfigure State.postMode State.setMode
  exact ((Moves.of (Reach.stopService (Reach.stopEngine (Reach.stopValves (Reach.stopPressure
    (Reach.stopLines .refl)))))).crl _).reach (Reach.post .refl _ _)

theorem Moves.settleConfigure : Moves s s.settleConfigure := by
  unfold State.settleConfigure; split
  · exact .enterConfigure
  · exact .refl

theorem Moves.leaveConfigure (m : Mode) : Moves s (s.leaveConfigure m) := by
  unfold State.leaveConfigure State.postMode State.setMode
  exact (Moves.refl.crl _).reach (Reach.post (Reach.startLines (Reach.startEngine (Reach.startService
    (Reach.startValves (Reach.startPressure .refl))))) _ _)

theorem Moves.postMode (m : Mode) (h : Moves s t) : Moves s (t.postMode m) := h.reach (Reach.post .refl _ _)

theorem Moves.swapMode (m : Mode) : Moves s (s.swapMode m) := by
  have h : Moves s (s.setMode m) := Moves.refl.crl _
  unfold State.swapMode; dsimp only; split
  · exact (h.reach (Reach.endWaiting _ .refl)).postMode _
  · exact h.postMode _

theorem Moves.validateAndLeave (m : Mode) : Moves s (s.validateAndLeave m).1 := by
  unfold State.validateAndLeave; dsimp only; split
  · exact Moves.refl.ms _
  · exact (Moves.refl.ms _).trans (.leaveConfigure _)

theorem Moves.askConfigure : Moves s s.askConfigure.1 := by
  have ask : Moves s ((s.withCrl { s.crl with pendingConfigure := true }).endWaiting .abortedMode) :=
    (Moves.refl.crl _).reach (Reach.endWaiting _ .refl)
  unfold State.askConfigure; split
  · dsimp only
    generalize (s.withCrl { s.crl with pendingConfigure := true }).endWaiting .abortedMode = u at ask
    split
    · exact ask
    · exact ask.trans .settleConfigure
  · exact .refl

theorem Moves.setModeRequest (v : Nat) : Moves s (s.setModeRequest v).1 := by
  unfold State.setModeRequest
  split
  · exact .refl
  · split
    · split <;> exact .refl
    · split
      · exact .refl
      · split
        · exact .validateAndLeave _
        · exact .askConfigure
        · exact .swapMode _

theorem Moves.writeParameter {p : Parameter} {v : List Nat} (h : s.writeParameter p v = some t) : Moves s t := by
  have grade : ∀ g f, Moves s (s.writeGrade g f) := fun g f => .of (Reach.it .refl _)
  cases p <;> simp only [State.writeParameter, State.writeLine, State.writeTier] at h
  case attendTime g => cases h; exact grade _ _
  case reminder g => cases h; exact grade _ _
  case maskWidth g =>
    split at h <;> cases h
    exact grade _ _
  case autoIncident => obtain ⟨b, -, rfl⟩ := Option.map_eq_some_iff.1 h; exact .of (Reach.it .refl _)
  case autoPlan => obtain ⟨b, -, rfl⟩ := Option.map_eq_some_iff.1 h; exact .of (Reach.it .refl _)
  case classOrder => obtain ⟨o, ho, rfl⟩ := Option.map_eq_some_iff.1 h; exact Moves.refl.order ho
  case classMask => obtain ⟨m, -, rfl⟩ := Option.map_eq_some_iff.1 h; exact Moves.refl.mask m
  case outageReminder => cases h; exact .of (Reach.ou .refl _)
  all_goals first
    | (cases h; exact Moves.refl.ms _)
    | (split at h <;> cases h; exact Moves.refl.ms _)

theorem Moves.setParamFields (ns : List Nat) : Moves s (setParamFields ns s).1 := by
  unfold Sys2Proof.Machine.setParamFields; split
  · unfold State.paramRequest; split
    · split
      · unfold State.setParameter; split
        · exact .refl
        · split
          · exact .refl
          · next h => exact .writeParameter h
      · exact .refl
    · exact .refl
  · exact .refl

theorem Moves.load {α : Type} (r : Option α) (f : α → ModelStore) : Moves s (s.load r f).1 := by
  unfold State.load; split
  · exact .refl
  · split
    · exact .refl
    · exact Moves.refl.ms _

/-! ## The expiries of the last tick -/

/-- The handling of an expiry by the owner of its channel. -/
theorem Moves.deliverExpiry (n : Nat) : Moves s (s.deliverExpiry n) := by
  unfold State.deliverExpiry
  repeat' split
  · exact .of (Reach.incidentExpiry _ .refl)
  · exact (Moves.of (Reach.orderExpiry _ .refl)).trans .settleConfigure
  · exact .of (Reach.contextExpiry _ .refl)
  · exact .of (Reach.outageReminder _ .refl)

theorem Moves.takeExpiry (n : Nat) : Moves s (s.takeExpiry n) := by
  unfold State.takeExpiry; split
  · exact (Moves.refl.due _).trans (.deliverExpiry _)
  · exact .refl

theorem Moves.deliverDue : Moves s s.deliverDue := by
  have fold : ∀ (l : List Nat) (t : State), Moves t (l.foldl State.takeExpiry t) := by
    intro l
    induction l with
    | nil => exact fun t => .refl
    | cons n l ih => exact fun t => (Moves.takeExpiry n).trans (ih _)
  exact fold _ _

/-- What the handling of an expiry can do: operations of the blocks, and then, where a pending change to CONFIGURE takes
effect, the write of the mode and its notice. -/
theorem State.deliverExpiry_cases (s : State) (n : Nat) :
    ∃ u, Reach true s u ∧ (s.deliverExpiry n = u ∨ ∃ old, s.deliverExpiry n = (u.setMode .configure).postMode old) := by
  unfold State.deliverExpiry
  repeat' split
  · exact ⟨_, Reach.incidentExpiry _ .refl, .inl rfl⟩
  · unfold State.settleConfigure; split
    · exact ⟨_, Reach.stopService (Reach.stopEngine (Reach.stopValves (Reach.stopPressure (Reach.stopLines
        (Reach.orderExpiry _ .refl))))), .inr ⟨_, rfl⟩⟩
    · exact ⟨_, Reach.orderExpiry _ .refl, .inl rfl⟩
  · exact ⟨_, Reach.contextExpiry _ .refl, .inl rfl⟩
  · exact ⟨_, Reach.outageReminder _ .refl, .inl rfl⟩

/-- The handling of an expiry keeps network time, the expiries left, the model, the queue of commands, and the link but for
the mode. -/
theorem State.deliverExpiry_keeps (s : State) (n : Nat) :
    (s.deliverExpiry n).tb.time = s.tb.time ∧ (s.deliverExpiry n).tb.due = s.tb.due ∧ (s.deliverExpiry n).ms = s.ms
      ∧ (s.deliverExpiry n).pending = s.pending ∧ (s.deliverExpiry n).crl.held = s.crl.held
      ∧ (s.deliverExpiry n).crl.requests = s.crl.requests := by
  have mode : ∀ (u : State) (m old : Mode), ((u.setMode m).postMode old).tb = u.tb ∧ ((u.setMode m).postMode old).ms = u.ms
      ∧ ((u.setMode m).postMode old).pending = u.pending ∧ ((u.setMode m).postMode old).crl.held = u.crl.held
      ∧ ((u.setMode m).postMode old).crl.requests = u.crl.requests := fun _ _ _ => ⟨rfl, rfl, rfl, rfl, rfl⟩
  obtain ⟨u, h, e | ⟨old, e⟩⟩ := s.deliverExpiry_cases n <;>
    simp [e, mode, h.keeps_time, h.keeps_due, h.keeps_ms, h.keeps_pending, h.keeps_crl]

theorem State.deliverExpiry_tb_due (s : State) (n : Nat) : (s.deliverExpiry n).tb.due = s.tb.due :=
  (s.deliverExpiry_keeps n).2.1

/-- Taking an expiry takes it, and it alone, off the list. -/
theorem State.takeExpiry_tb_due (s : State) (n : Nat) : (s.takeExpiry n).tb.due = s.tb.due.erase n := by
  unfold State.takeExpiry; split
  · simp [State.deliverExpiry_tb_due]
  · next h => exact (List.erase_of_not_mem (by simpa using h)).symm

/-- After the expiries of the last tick are delivered none is left. -/
theorem State.deliverDue_tb_due (s : State) : s.deliverDue.tb.due = [] := by
  have fold : ∀ (l : List Nat) (t : State), t.tb.due = l → (l.foldl State.takeExpiry t).tb.due = [] := by
    intro l
    induction l with
    | nil => exact fun t h => h
    | cons n l ih => exact fun t h => ih _ (by simp [State.takeExpiry_tb_due, h])
  exact fold _ _ rfl

/-- Delivering them keeps network time, the model, the queue of commands, and the link but for the mode. -/
theorem State.deliverDue_keeps (s : State) :
    s.deliverDue.tb.time = s.tb.time ∧ s.deliverDue.ms = s.ms ∧ s.deliverDue.pending = s.pending
      ∧ s.deliverDue.crl.held = s.crl.held ∧ s.deliverDue.crl.requests = s.crl.requests := by
  have take : ∀ (t : State) (n : Nat), (t.takeExpiry n).tb.time = t.tb.time ∧ (t.takeExpiry n).ms = t.ms
      ∧ (t.takeExpiry n).pending = t.pending ∧ (t.takeExpiry n).crl.held = t.crl.held
      ∧ (t.takeExpiry n).crl.requests = t.crl.requests := by
    intro t n
    unfold State.takeExpiry; split
    · simp [State.deliverExpiry_keeps]
    · simp
  have fold : ∀ (l : List Nat) (t : State), (l.foldl State.takeExpiry t).tb.time = t.tb.time
      ∧ (l.foldl State.takeExpiry t).ms = t.ms ∧ (l.foldl State.takeExpiry t).pending = t.pending
      ∧ (l.foldl State.takeExpiry t).crl.held = t.crl.held
      ∧ (l.foldl State.takeExpiry t).crl.requests = t.crl.requests := by
    intro l
    induction l with
    | nil => simp
    | cons n l ih => intro t; simp [ih, take]
  exact fold _ _

/-- A command of the clock, the field or an engine first delivers what is left. -/
theorem Moves.afterDue {f : State → State} (h : ∀ t, Moves t (f t)) : Moves s (s.afterDue f) := by
  unfold State.afterDue State.unlessHeld; split
  · exact .refl
  · exact Moves.deliverDue.trans (h _)

/-! ## Requests -/

/-- A request command moves the state as its owner does. -/
theorem Moves.request (r : Request) {owner : List Nat → State → Answered}
    (h : ∀ ns t, Moves t (owner ns t).1) : Moves s (s.request r owner) := by
  have handle : ∀ t, Moves t (t.handle r owner) := by
    intro t
    rcases State.handle_cases t r owner with e | e | ⟨ns, e⟩ <;> rw [e]
    · exact Moves.refl.crl _
    · exact Moves.refl.crl _
    · exact (h ns t).crl _
  rcases State.request_cases s r owner with ⟨s₀, ht, e⟩ | e | e <;> rw [e]
  · obtain ⟨d, ⟨-, rfl⟩, ⟨-, rfl⟩ | ⟨rest, -, rfl⟩⟩ := ht
    · exact Moves.deliverDue.trans (handle _)
    · exact (Moves.deliverDue.crl _).trans (handle _)
  · exact .refl
  · exact Moves.deliverDue.crl _

/-! ## The field lines and the engine -/

theorem Reach.deliverReport {b : Bool} (st : Nat) (r : Report) (was : Health) (o : DeliveryOrder) (h : Reach b s t) :
    Reach b s (t.deliverReport st r was o) := by
  unfold State.deliverReport; dsimp only; split
  · exact h
  · exact Reach.deliverReadings _ h
  · split
    · exact Reach.deliverReadings _ (Reach.deliverSamples _ _ h)
    · exact Reach.deliverSamples _ _ (Reach.deliverReadings _ h)

theorem Reach.closeTransaction (tx : Transaction) (e : Ending) (o : DeliveryOrder) (h : Reach true s t) :
    Reach true s (t.closeTransaction tx e o) := by
  unfold State.closeTransaction; split <;> dsimp only
  · split
    · exact Reach.deliverReport _ _ _ _ (Reach.foldl (fun t a h => Reach.count _ _ h) (Reach.updateHealth _ _ _ _ _ h))
    · exact Reach.foldl (fun t a h => Reach.count _ _ h) (Reach.updateHealth _ _ _ _ _ h)
  · exact Reach.judgeTransaction _ _ _
      (Reach.foldl (fun t a h => Reach.count _ _ h) (Reach.updateHealth _ _ _ _ _ h))

theorem Reach.nextTransaction (l : Nat) (tx : Transaction) (h : Reach true s t) :
    Reach true s (t.nextTransaction l tx) := by
  unfold State.nextTransaction; split
  · dsimp only; split
    · exact Reach.chooseTransaction _ (Reach.advanceScan _ _ h)
    · exact Reach.chooseTransaction _ h
  · exact h

theorem Moves.endTransaction (l : Nat) (e : Ending) (o : DeliveryOrder) : Moves s (s.endTransaction l e o) := by
  unfold State.endTransaction; split
  · exact ((Moves.of (Reach.closeTransaction _ _ _ .refl)).trans .settleConfigure).reach (Reach.nextTransaction _ _ .refl)
  · exact .refl

theorem Moves.lineBytes (l : Nat) (bytes : List Byte) (o : DeliveryOrder) : Moves s (s.lineBytes l bytes o) := by
  unfold State.lineBytes; split
  · exact .refl
  · split
    · exact .refl
    · exact .endTransaction _ _ _
    · exact .endTransaction _ _ _
    · exact .endTransaction _ _ _

theorem Reach.endQuiet (l : Nat) (h : Reach true s t) : Reach true s (t.endQuiet l) := by
  unfold State.endQuiet; split
  · exact Reach.chooseTransaction _ (Reach.endPass _ h)
  · exact h

theorem Reach.endTrace {b : Bool} (h : Reach b s t) : Reach b s t.endTrace := by
  unfold State.endTrace; split
  · unfold State.completeTrace; dsimp only
    refine Reach.chooseJob (Reach.me (Reach.foldl (fun t a h => ?_) (Reach.me h _)) _)
    unfold State.deliverFedChange; split
    · exact h
    · exact Reach.deliverFed _ _ h
  · exact h

theorem Reach.stepSearch {b : Bool} (h : Reach b s t) : Reach b s t.stepSearch := by
  unfold State.stepSearch
  repeat' split
  all_goals first | exact h | exact Reach.setEngine _ h

theorem Reach.endZone {b : Bool} (h : Reach b s t) : Reach b s t.endZone := by
  unfold State.endZone
  repeat' split
  all_goals first | exact h | exact Reach.setEngine _ h

theorem Reach.endSearch {b : Bool} (h : Reach b s t) : Reach b s t.endSearch := by
  unfold State.endSearch
  split
  · split
    · unfold State.completeSearch; split
      · exact Reach.chooseJob (Reach.me h _)
      · exact Reach.chooseJob (Reach.takeResult _ _ _ (Reach.setEngine _ h))
    · exact h
  · exact h

theorem Moves.unlessHeld {f : State → State} (h : ∀ t, Moves t (f t)) : Moves s (s.unlessHeld f) := by
  unfold State.unlessHeld; split
  · exact .refl
  · exact h s

theorem Reach.stationStats (i c : Nat) (h : Reach true s t) : Reach true s (t.stationStats i c).1 := by
  unfold State.stationStats
  repeat' split
  all_goals first | exact h | exact Reach.setStation _ _ h

theorem Reach.relightDone {b : Bool} (g : Nat) (h : Reach b s t) : Reach b s (t.relightDone g).1 := by
  unfold State.relightDone
  repeat' split
  all_goals first | exact h | exact Reach.relightSegment _ _ _ h

theorem Reach.discardOutage {b : Bool} (n : Nat) (h : Reach b s t) : Reach b s (t.discardOutage n).1 := by
  unfold State.discardOutage
  repeat' split
  all_goals first | exact h | exact Reach.setOutage _ _ h

theorem Reach.readOutage {b : Bool} (n : Nat) (h : Reach b s t) : Reach b s (t.readOutage n).1 := by
  unfold State.readOutage; dsimp only
  repeat' split
  all_goals first | exact h | exact Reach.bringRecord _ h

/-! ## Every command -/

/-- A command that gives a next state resets the part, or moves the state by `Moves`. -/
theorem exec_moves {c : Instr} (h : exec c s = .next t) :
    (∃ cause rate site, t = State.afterReset cause rate site s.pending) ∨ Moves s t := by
  cases c
  case powerOn rate site => cases h; exact .inl ⟨_, _, _, rfl⟩
  case resetPin rate site => cases h; exact .inl ⟨_, _, _, rfl⟩
  case unknownKind k tag body =>
    simp only [exec, execUnknownKind] at h
    split at h <;> cases h
    exact .inr (.request _ fun _ _ => .refl)
  all_goals (cases h; refine .inr ?_)
  case tick => exact .afterDue fun t => Moves.refl.tick
  case incidentDeadlineExpiry n => exact .unlessHeld fun t => .takeExpiry _
  case orderChannelExpiry n => exact .unlessHeld fun t => .takeExpiry _
  case contextChannelExpiry n => exact .unlessHeld fun t => .takeExpiry _
  case outageChannelExpiry n => exact .unlessHeld fun t => .takeExpiry _
  case crlFrameReceived b => exact .unlessHeld fun t => Moves.refl.crl _
  case crlGapTimeout => exact .unlessHeld fun t => Moves.refl.crl _
  case stationReport l b o => exact .afterDue fun t => .lineBytes _ _ _
  case orderAnswer l b o => exact .afterDue fun t => .lineBytes _ _ _
  case badReply l b o => exact .afterDue fun t => .lineBytes _ _ _
  case replyTimeout l o => exact .afterDue fun t => .endTransaction _ _ _
  case quietWaitEnd l => exact .afterDue fun t => .of (Reach.endQuiet _ .refl)
  case traceComplete => exact .afterDue fun t => .of (Reach.endTrace .refl)
  case searchStep => exact .afterDue fun t => .of (Reach.stepSearch .refl)
  case searchZoneComplete => exact .afterDue fun t => .of (Reach.endZone .refl)
  case searchComplete => exact .afterDue fun t => .of (Reach.endSearch .refl)
  case heldInReset => exact Moves.refl.crl _
  all_goals refine .request _ fun ns t => ?_
  case ident => exact .refl
  case status => exact .refl
  case setMode => unfold setModeFields; split <;> first | exact .setModeRequest _ | exact .refl
  case setParam => exact .setParamFields ns
  case modelClear => unfold State.modelClear; split <;> first | exact .refl | exact Moves.refl.ms _
  case loadSegment => unfold loadSegmentFields; split <;> first | exact .load _ _ | exact .refl
  case loadValve => unfold loadValveFields; split <;> first | exact .load _ _ | exact .refl
  case loadPoint => unfold loadPointFields; split <;> first | exact .load _ _ | exact .refl
  case loadStation => unfold loadStationFields; split <;> first | exact .load _ _ | exact .refl
  case loadLine => unfold loadLineFields; split <;> first | exact .load _ _ | exact .refl
  case loadTier => unfold loadTierFields; split <;> first | exact .load _ _ | exact .refl
  case readSegment => refine .oneField (fun t n => ?_) ns t; unfold State.readSegment; repeat' split
                      all_goals exact .refl
  case readValve => refine .oneField (fun t n => ?_) ns t; unfold State.readValve; repeat' split
                    all_goals exact .refl
  case readPoint => refine .oneField (fun t n => ?_) ns t; unfold State.readPoint; repeat' split
                    all_goals exact .refl
  case readStation => refine .oneField (fun t n => ?_) ns t; unfold State.readStation; repeat' split
                      all_goals exact .refl
  case stationStats => unfold stationStatsFields; split <;> first | exact .of (Reach.stationStats _ _ .refl) | exact .refl
  case call => unfold callFields; split <;> first | exact .of (Reach.callRequest _ _ _ _ _ .refl) | exact .refl
  case attend => exact .oneField (fun t n => .of (Reach.attendRequest _ .refl)) ns t
  case madeSafe => exact .oneField (fun t n => .of (Reach.madeSafeRequest _ .refl)) ns t
  case closeIncident => exact .oneField (fun t n => .of (Reach.closeIncidentRequest _ .refl)) ns t
  case floor => unfold floorFields; split <;> first | exact .of (Reach.floorRequest _ _ .refl) | exact .refl
  case readIncident => exact .oneField (fun t n => .of (Reach.readIncident _ .refl)) ns t
  case plan => unfold planFields; split <;> first | exact .of (Reach.planRequest _ _ _ .refl) | exact .refl
  case execute => exact .oneField (fun t n => .of (Reach.executeRequest _ .refl)) ns t
  case extend => unfold extendFields; split <;> first | exact .of (Reach.extendRequest _ _ _ .refl) | exact .refl
  case confirm => exact .oneField (fun t n => .of (Reach.confirmRequest _ .refl)) ns t
  case release => exact .oneField (fun t n => .of (Reach.releaseRequest _ .refl)) ns t
  case cancel => exact .oneField (fun t n => .of (Reach.cancelRequest _ .refl)) ns t
  case readContext => exact .oneField (fun t n => .of (Reach.readContext _ .refl)) ns t
  case order => unfold orderFields; split <;> first | exact .of (Reach.hostOrder _ _ _ _ .refl) | exact .refl
  case releaseLocal =>
    unfold releaseLocalFields; split <;> first | exact .of (Reach.hostOrder _ _ _ _ .refl) | exact .refl
  case abort => exact .oneField (fun t n => (Moves.of (Reach.abortRequest _ .refl)).trans .settleConfigure) ns t
  case hold => exact .of (Reach.holdRequest .refl)
  case releaseHold => exact .of (Reach.releaseHoldRequest .refl)
  case valveEntry => unfold valveEntryFields; split <;> first | exact .of (Reach.valveEntryRequest _ _ .refl) | exact .refl
  case inhibit => unfold inhibitFields; split <;> first | exact .of (Reach.inhibitRequest _ _ _ .refl) | exact .refl
  case readOrders => exact .refl
  case relightDone => exact .oneField (fun t n => .of (Reach.relightDone _ .refl)) ns t
  case readOutage => exact .oneField (fun t n => .of (Reach.readOutage _ .refl)) ns t
  case discardOutage => exact .oneField (fun t n => .of (Reach.discardOutage _ .refl)) ns t
  case fetch => exact .oneField (fun t n => Moves.refl.fetch n) ns t
  next => unfold recallFields; split <;> first | exact .of (Reach.hostOrder _ _ _ _ .refl) | exact .refl

/-- The same of a step: it leaves the state, resets the part, or moves the state after taking the front command. -/
theorem step_moves (h : step s = .next t) :
    t = s ∨ ∃ c rest, s.pending = c :: rest
      ∧ ((∃ cause rate site, t = State.afterReset cause rate site rest) ∨ Moves (s.withPending rest) t) := by
  unfold step at h
  split at h
  · cases h; exact .inl rfl
  · next c rest e => exact .inr ⟨c, rest, e, exec_moves h⟩

end Sys2Proof.Machine
end

