-- ==== Sys2Proof/Laws/Table.lean ====
section
/-! SUPPORT. Tables: a read after a write, and the canonical form that every table operation keeps. -/
namespace Sys2Proof.Machine

theorem rowGet_rowSet {α : Type} (rows : List (Nat × α)) (i j : Nat) (a : α)
    (h : rows.Pairwise fun x y => x.1 < y.1) :
    rowGet (rowSet rows i a) j = if i = j then some a else rowGet rows j := by
  induction rows with
  | nil => simp [rowSet, rowGet]
  | cons r rest ih =>
    obtain ⟨k, b⟩ := r
    rw [List.pairwise_cons] at h
    unfold rowSet
    split
    · simp only [rowGet]
    · split
      · next e => subst e; simp only [rowGet]; split <;> simp_all
      · next h1 h2 =>
        simp only [rowGet, ih h.2]
        split
        · next e => subst e; simp [h2]
        · rfl

/-- A read after a write of the same record gives it, and every other record reads as before. -/
theorem Table.get_set {α : Type} (t : Table α) (bound i j : Nat) (a : α) (h : t.wf bound) :
    (t.set i a).get j = if i = j then some a else t.get j := rowGet_rowSet _ _ _ _ h.1

theorem mem_rowSet {α : Type} (rows : List (Nat × α)) (i : Nat) (a : α) (r : Nat × α) :
    r ∈ rowSet rows i a → r = (i, a) ∨ r ∈ rows := by
  induction rows with
  | nil => simp [rowSet]
  | cons x rest ih =>
    unfold rowSet
    split
    · simp
    · split
      · simp only [List.mem_cons]; tauto
      · simp only [List.mem_cons]; tauto

theorem pairwise_rowSet {α : Type} (rows : List (Nat × α)) (i : Nat) (a : α)
    (h : rows.Pairwise fun x y => x.1 < y.1) : (rowSet rows i a).Pairwise fun x y => x.1 < y.1 := by
  induction rows with
  | nil => simp [rowSet]
  | cons x rest ih =>
    obtain ⟨k, b⟩ := x
    have h' := h
    rw [List.pairwise_cons] at h
    unfold rowSet
    split
    · next lt =>
      rw [List.pairwise_cons]
      refine ⟨fun r hr => ?_, h'⟩
      rcases List.mem_cons.1 hr with rfl | hr
      · exact lt
      · exact lt.trans (h.1 r hr)
    · split
      · next e => subst e; exact List.pairwise_cons.2 ⟨h.1, h.2⟩
      · next n1 n2 =>
        rw [List.pairwise_cons]
        refine ⟨fun r hr => ?_, ih h.2⟩
        rcases mem_rowSet _ _ _ _ hr with rfl | hr
        · show k < i; omega
        · exact h.1 r hr

/-- A write keeps the canonical form. -/
theorem Table.wf_set {α : Type} (t : Table α) (bound i : Nat) (a : α) (h : t.wf bound) (hi : i < bound) :
    (t.set i a).wf bound := by
  refine ⟨pairwise_rowSet _ _ _ h.1, fun r hr => ?_⟩
  rcases mem_rowSet _ _ _ _ hr with rfl | hr
  · exact hi
  · exact h.2 r hr

theorem rowGet_some {α : Type} (rows : List (Nat × α)) (i : Nat) (a : α) (h : rowGet rows i = some a) :
    (i, a) ∈ rows := by
  induction rows with
  | nil => simp [rowGet] at h
  | cons r rest ih =>
    obtain ⟨k, b⟩ := r
    simp only [rowGet] at h
    split at h
    · next e => subst e; simp_all
    · exact List.mem_cons_of_mem _ (ih h)

/-- A change of one record keeps the canonical form. -/
theorem Table.wf_modify {α : Type} (t : Table α) (bound i : Nat) (f : α → α) (h : t.wf bound) :
    (t.modify i f).wf bound := by
  unfold Table.modify
  split
  · exact h
  · next a e => exact t.wf_set bound i _ h (h.2 _ (rowGet_some _ _ _ e))

/-- A table made with the same indexes is in canonical form. -/
theorem Table.wf_mapRows {α β : Type} (t : Table α) (bound : Nat) (f : Nat → α → β) (h : t.wf bound) :
    (t.mapRows f).wf bound := by
  refine ⟨?_, fun r hr => ?_⟩
  · simpa [Table.mapRows, List.pairwise_map] using h.1
  · obtain ⟨x, hx, rfl⟩ := List.mem_map.1 hr
    exact h.2 x hx

/-- A table made with the same indexes holds, at each, what the function makes of the record there. -/
theorem Table.get_mapRows {α β : Type} (t : Table α) (f : Nat → α → β) (i : Nat) :
    (t.mapRows f).get i = (t.get i).map (f i) := by
  obtain ⟨rows⟩ := t
  simp only [Table.get, Table.mapRows]
  induction rows with
  | nil => rfl
  | cons r rest ih =>
    obtain ⟨k, b⟩ := r
    simp only [List.map_cons, rowGet]
    split
    · next e => subst e; rfl
    · exact ih

/-- The empty table is in canonical form. -/
theorem Table.wf_empty {α : Type} (bound : Nat) : (Table.empty : Table α).wf bound := by simp [Table.wf, Table.empty]

end Sys2Proof.Machine
end

