-- ==== Sys2Proof/Tests/Slice0.lean ====
section
/-! SUPPORT. Tests against the manual's own figures, and for each obligation with hypotheses a state and operands that
meet them. -/
namespace Sys2Proof.Tests
open Sys2Proof Sys2Proof.Machine
set_option maxRecDepth 20000

/-! ## Helpers -/

/-- The state after some commands. -/
def after (s : State) (cs : List Instr) : State :=
  cs.foldl (fun s c => match exec c s with | .next t => t | .fault _ => s | .refused _ => s) s

/-- The result code of the reply. -/
def code (s : State) : Option ResultCode := s.crl.reply.map (·.code)

/-- The contents of the reply. -/
def contents (s : State) : Option ReplyBody := s.crl.reply.map (·.body)

/-- The bodies of the notices of a class. -/
def noticed (s : State) (c : NoticeClass) : List NoticeBody := (s.nq.queue c).notices.map (·.body)

/-- Raw body bytes of a length. -/
def zeros (n : Nat) : List Byte := List.replicate n 0

/-- A state that is not held and has no expiry left is found as it stands. -/
theorem finds {s : State} (h : (s.crl.held, s.tb.due) = (false, []) := by decide) : s.Finds s :=
  ⟨congrArg Prod.fst h, (State.deliverDue_nil (congrArg Prod.snd h)).symm⟩

/-- If its request list is empty too, it takes a request as it stands. -/
theorem takes {s : State} {r : Request} (h : (s.crl.requests, s.crl.held, s.tb.due) = ([], false, []) := by decide) :
    s.Takes r s :=
  ⟨s, finds (congrArg Prod.snd h), .inl ⟨congrArg Prod.fst h, rfl⟩⟩

/-! ## A small network: that of section 7.9, on outstation 20, with a MANUAL valve of the highest index -/

/-- A LINE valve on a channel of outstation 20. -/
def lineValve (a b channel : Nat) : ValveRec := ⟨.line, .segment a, b, .remote, some 20, some channel, .opened, 900, 100⟩

/-- A pressure point with the figures of section 3.11. -/
def point (segment channel : Nat) : PointRec :=
  ⟨segment, 20, channel, 200000, 0, 2, 500, 50, 50, 20000, 2, 60000, 90000, 180000, 195000⟩

/-- The loaded part, in CONFIGURE. -/
def loaded : State := State.reset.withMs { ModelStore.reset with
  segments := ⟨[(10, ⟨.lp, 2200, 0, 0⟩), (11, ⟨.lp, 1500, 0, 0⟩), (12, ⟨.lp, 640, 1, 0⟩), (13, ⟨.lp, 410, 0, 0⟩)]⟩
  valves := ⟨[(0, { lineValve 0 10 0 with kind := .feed, sideA := .source }), (5, lineValve 10 11 1),
    (6, ⟨.line, .segment 11, 12, .manual, none, none, .opened, 1, 10⟩), (7, lineValve 12 13 2), (8, lineValve 11 13 3),
    (511, ⟨.line, .segment 10, 11, .manual, none, none, .opened, 1, 10⟩)]⟩
  points := ⟨[(30, point 12 0), (31, point 13 1)]⟩
  stations := ⟨[(20, ⟨2, 4⟩), (63, ⟨3, 31⟩)]⟩ }

/-- The part just after SET_MODE SUPERVISE. -/
def started : State := after loaded [.setMode 1 [2]]

/-- The part in SUPERVISE with the engine IDLE, every valve OPEN, and no notice held. -/
def live : State :=
  let s := started.withVou { started.vou with valves := started.vou.valves.mapRows fun _ x => { x with position := .opened } }
  (s.withMe { s.me with state := .idle }).withNq .reset

/-- The part in a mode. -/
def inMode (m : Mode) (s : State) : State := s.withCrl { s.crl with mode := m }

/-- The part with a change to CONFIGURE pending. -/
def pendingChange (s : State) : State := s.withCrl { s.crl with pendingConfigure := true }

/-- A live order. -/
def anOrder (stage : OrderStage) (valve : Nat) (action : Action) (origin : Origin) : Order :=
  ⟨stage, valve, action, 2, origin, false, 0, false, 0⟩

/-- The part with an order in a slot. -/
def withOrder (k : Nat) (o : Order) (s : State) : State := (s.setSlot k (some o)).setValveSlot o.valve (some k)

/-- The incident of section 6.13. -/
def anIncident (slot serial : Nat) : Incident :=
  { slot := slot, serial := serial, cls := .leak, source := .call, state := .opened, grade := .p2, floor := none,
    urgent := false, key := .ofNat 24 (1201 * 4096 + 806), maskWidth := 2, segment := some 12,
    calls := [⟨1001, .insideOdour, .ofNat 24 (1201 * 4096 + 806), none, 10000⟩], linked := none, context := none, stage := 0,
    created := 10000 }

/-- The part with open incidents. -/
def withIncidents (l : List Incident) (s : State) : State := s.withIt { s.it with incidents := l }

/-- The plan of section 7.9 in a state. -/
def aContext (state : ContextState) : Context :=
  { Context.freeWith 1 with
    state := state, seeds := [12], zone := [12], revision := 1,
    boundary := [⟨6, .crew, .openTodo, false⟩, ⟨7, .remote, .openTodo, false⟩] }

/-- The part with that plan in context 0. -/
def planned (state : ContextState) : State := live.setContext 0 (aContext state)

/-- The part with segment 12 RESTORING, alone in outage record 0 since t = 1000. -/
def outage : State :=
  ((live.setOutage 0 { OutageRecord.free with
    state := .active, segments := [⟨12, .isolation, 1000⟩], affected := 640, offCount := 640, criticalOff := 1,
    peakOff := 640, lastUpdate := some 1000, created := some 1000 }).setService 12
      ⟨.restoring, some .isolation, some 0, true, .noData, none⟩).startChannel 68 18000 .periodic true
    |> fun s => (s.withOu { s.ou with active := [0] }).withTb { s.tb with time := 1600 }

/-- An EXECUTING context whose two valves are asked for by a WAITING order and by an entry of the waiting list. -/
def asking : State :=
  let s := withOrder 0 (anOrder .waiting 7 .close (.context 0)) (live.setContext 0 { aContext .executing with
    boundary := [⟨5, .remote, .waitingSlot, false⟩, ⟨7, .remote, .ordered, false⟩] })
  s.setWaiting [⟨0, 5, .close, 0⟩]

/-- The bytes of a report from outstation 20. -/
def report (counts valves : List Nat) : List Byte :=
  fieldFrame 4 0x81 ((List.range 8).flatMap (fun i => bytesOf 2 (counts.getD i 32768))
    ++ (List.range 8).map fun i => .ofNat 8 (valves.getD i 1))

/-! ## Well-formedness: each check refuses an ill-formed term -/

theorem test_body_of_1024_fits : (Instr.ident 0 (zeros 1024)).wellFormed = true := by decide
theorem test_longer_body_refused : (Instr.ident 0 (zeros 1025)).wellFormed = false := by decide
theorem test_unknown_kind_of_the_catalogue_refused : (Instr.unknownKind 0x60 0 []).wellFormed = false := by decide
theorem test_unknown_kind_with_long_body_refused : (Instr.unknownKind 0x61 0 (zeros 1025)).wellFormed = false := by decide
theorem test_unknown_kind_outside_the_catalogue : (Instr.unknownKind 0x17 0 []).wellFormed = true := by decide

theorem test_live_network : (live.crl.mode, live.me.state, live.ms.derived.isSome) = (.supervise, .idle, true) := by decide

/-! ## Figures of the manual, one step each -/

/-- Section 11.10: the CRC of the nine bytes 0x31 to 0x39 is 0x29B1. -/
theorem test_crc : crc16 (List.map (BitVec.ofNat 8) [0x31, 0x32, 0x33, 0x34, 0x35, 0x36, 0x37, 0x38, 0x39]) = 0x29B1#16 := by
  decide

/-- The table of R175. -/
theorem test_durations :
    [0, 900, 36000, 65535, 65536, 65537, 72000, 432000, 864000, 4194240, 5000000].map
        (fun d => (prescaleOf d, reloadOf d, actualDuration d))
      = [(1, 1, 1), (1, 900, 900), (1, 36000, 36000), (1, 65535, 65535), (2, 32768, 65536), (2, 32769, 65538), (2, 36000, 72000),
        (7, 61715, 432005), (14, 61715, 864010), (64, 65535, 4194240), (64, 65535, 4194240)] := by decide

/-- Section 9.6: the remaining time 10,000 ticks after a load of 432,000 ds, one tick before and at it. -/
theorem test_remaining :
    ((⟨true, .single, 7, 61715, 60287, 4, true⟩ : Channel).tick.1.remaining, (Channel.loaded 432000 .single true).remaining)
      = (some 422005, some 432005) := by decide

/-- TICK (section 9.7): a channel at its last tick expires; one whose gate is closed holds its 600 ds. -/
theorem test_tick :
    let s := after (((live.startChannel 50 1 .single true).startChannel 51 600 .single false)) [.tick]
    (s.tb.due, (s.channel 50).running, (s.channel 51).remaining, s.tb.time) = ([50], false, some 600, 1#32) := by decide +kernel

/-- The example of R43, and its low edge. -/
theorem test_conversion :
    let rec248 : PointRec := { point 12 0 with fullScale := 500000, zeroOffset := -2000 }
    (convert rec248 32768, (bandOf 10500).toOption.map (convert rec248)) = (248000, some 0) := by decide

/-- Section 3.11, sample 1: pressure, filter and rate. -/
theorem test_sample_one :
    (convert (point 12 0) 43690, filterValue 2 150400 149997, rateOf none 150300 150400 50) = (149997, 150300, some (-1200)) := by
  decide

/-- Section 3.11, sample 3: the second fast fall sets the latch and posts FALL to SAFETY. -/
theorem test_sample_three :
    let x : PointLive := ⟨.valid, some 131124, some (-230112), some .normal, none, 1, false, some 1100⟩
    let s := (inMode .supervise loaded).withPe { PressureUnit.reset with points := ⟨[(30, x)]⟩ }
    let t := s.sample 1150 30 27000
    (t.pe.points.get 30, noticed t .safety)
      = (some ⟨.valid, some 116742, some (-172584), some .normal, none, 2, true, some 1150⟩,
        [.fall 30 12 116742 (-172584) 2]) := by decide

/-- R46's example: f = 90,300 stays on the low side from LOW_WARN, and 1350's deadline of section 3.11. -/
theorem test_zone :
    (candidateZone (point 12 0) .lowWarn 90300, candidateZone (point 12 0) .normal 90300,
        persist (point 12 0) 1350 .normal .lowWarn none, persist (point 12 0) 1400 .normal .lowWarn (some (.lowWarn, 1400)))
      = (.lowWarn, .normal, (.normal, some (.lowWarn, 1400)), (.lowWarn, none)) := by decide

/-- Section 2.10: the third timeout from 40 makes DEGRADED at 64; the seventh scan of the recovery. -/
theorem test_health :
    (((⟨.healthy, 56, 0, .zero⟩ : StationLive).afterTransaction false true).health,
        (⟨.lost, 131, 3, .zero⟩ : StationLive).afterTransaction true true)
      = (.degraded, ⟨.degraded, 64, 0, .zero⟩) := by decide

/-- Section 1.8: valve 3 joins MP and LP as a LINE valve. -/
theorem test_validation :
    (after (loaded.withMs { loaded.ms with segments := loaded.ms.segments.set 13 ⟨.mp, 0, 0, 0⟩ }) [.setMode 1 [2]]
      |> fun s => (code s, contents s, s.crl.mode))
      = (some .model, some (.failure ⟨.valve, some 7, .valveTierMatch, some 13, none⟩), .configure) := by decide

/-- R14 on the small network: adjacent-valve lists and the maps of outstation 20. -/
theorem test_derived :
    (live.ms.adjacentOf 11, live.ms.pointsOf 12, live.ms.valveMapOf 20, live.ms.pointMapOf 20)
      = ([5, 6, 8, 511], [30], [(0, 0), (1, 5), (2, 7), (3, 8)], [(0, 30), (1, 31)]) := by decide

/-! ## Reset, clock and link -/

theorem test_power_on :
    let s := after (live.withCrl { live.crl with held := true }) [.powerOn 2 15]
    (s.crl.held, s.crl.cause, s.crl.siteStraps, s.crl.mode, s.ms.derived) = (false, .powerOn, 15, .configure, none) := by decide

theorem test_reset_pin : (after live [.resetPin 0 3]).crl.cause = .resetPin := by decide

/-- R190: the frame being received and ATTN go with the reset. -/
theorem test_held_in_reset :
    let s := (live.post .safety (.modeChanged .configure .observe)).withCrl { live.crl with receiver := some [1] }
    (s.attn, (after s [.heldInReset]).attn, (after s [.heldInReset]).crl.receiver) = (true, false, none) := by decide

/-- R190: a part held in reset sends nothing on a field line whose transaction it was in. -/
theorem test_held_line_is_silent :
    ((live.lineFrame 2).isSome, ((after live [.heldInReset]).controller 2).state, (after live [.heldInReset]).lineFrame 2)
      = (true, .inTransaction (.scan 20), none) := by decide

/-- An IDENT frame joins the request list (R191, R192), and IDENT then takes it from there. -/
theorem test_frame_then_request :
    let s := after live [.crlFrameReceived (linkFrame 0x01 9 [])]
    (s.crl.requests, (after s [.ident 9 []]).crl.requests, code (after s [.ident 9 []]))
      = ([⟨0x01, 9, []⟩], [], some .ok) := by decide

theorem test_gap : (after (live.withCrl { live.crl with receiver := some [0] }) [.crlGapTimeout]).crl.linkErrors = 1 := by decide

theorem test_unknown_kind :
    (after live [.unknownKind 0x17 5 []]).crl.reply = some ⟨0x97, 5, .unknownKind, .empty⟩ := by decide

theorem test_ident :
    contents (after (after live [.powerOn 1 9]) [.ident 1 []]) = some (.ident 410 1 9 230400 .powerOn .configure 0) := by decide

theorem test_ident_length : code (after live [.ident 1 [0]]) = some .length := by decide

/-- Section 11.9: pending mode CONFIGURE and 11 FREE slots. -/
theorem test_status :
    let s := pendingChange (withOrder 0 (anOrder .moving 7 .close .host) live)
    (contents (after s [.status 1 []])).map (fun r => match r with | .status r => (r.pendingMode, r.freeSlots) | _ => (none, 0))
      = some (some .configure, 11) := by decide

/-- Section 11.9: a pending change, with the WAITING order ended ABORTED_MODE. -/
theorem test_set_mode_pending :
    let s := withOrder 2 (anOrder .waiting 8 .close .host) (withOrder 0 (anOrder .moving 7 .close .host) live)
    let t := after s [.setMode 1 [1]]
    (code t, t.crl.pendingConfigure, t.slot 2, noticed t .operations)
      = (some .accepted, true, none, [.orderOutcome (some 2) 8 .close .host .abortedMode 0]) := by decide

theorem test_set_param_clamped :
    (after loaded [.setParam 1 (joinFields [1, 1, 1, 1, 2] [1, 1, 3, 1, 5])] |> fun s => (code s, (s.ms.lineOf 3).replyTimeout))
      = (some .ok, 20) := by decide

theorem test_set_param_mode : code (after live [.setParam 1 (joinFields [1, 1, 1, 1, 2] [1, 1, 0, 1, 5])]) = some .mode := by
  decide

/-! ## The model requests -/

theorem test_model_clear : (after live [.modelClear 1 []] |> code, (after loaded [.modelClear 1 []]).ms.valves.rows.length)
    = (some .mode, 0) := by decide

theorem test_load_segment :
    let s := after loaded [.loadSegment 1 (joinFields [2, 1, 2, 1, 3] [383, 2, 65535, 255, 16777215])]
    (code s, s.ms.segments.get 383) = (some .ok, some ⟨.mp, 65535, 255, 0xFFFFFF#24⟩) := by decide

theorem test_load_segment_range :
    code (after loaded [.loadSegment 1 (joinFields [2, 1, 2, 1, 3] [384, 2, 0, 0, 0])]) = some .range := by decide

/-- R5's example: travel time 0 and recall answer time 7,200 are stored as 1 and 6,000. -/
theorem test_load_valve :
    let s := after loaded
      [.loadValve 1 (joinFields [2, 1, 1, 2, 2, 1, 1, 1, 1, 1, 2, 2] [510, 1, 1, 12, 13, 1, 1, 63, 7, 2, 0, 7200])]
    (code s, s.ms.valves.get 510)
      = (some .ok, some ⟨.line, .segment 12, 13, .remote, some 63, some 7, .closed, 1, 6000⟩) := by decide

theorem test_load_valve_feed_side :
    code (after loaded
      [.loadValve 1 (joinFields [2, 1, 1, 2, 2, 1, 1, 1, 1, 1, 2, 2] [510, 3, 1, 12, 13, 3, 0, 0, 0, 1, 1, 10])]) = some .range := by
  decide

/-- The body of a LOAD_POINT with a hysteresis. -/
def pointBody (h : Nat) : List Byte :=
  joinFields [1, 2, 1, 1, 3, 3, 1, 2, 2, 2, 3, 1, 3, 3, 3, 3]
    [255, 12, 20, 4, 200000, 16777215, 9, h, 50, 6001, 20000, 0, 60000, 90000, 180000, 195000]

/-- R7's example is stored, with its clamps and an offset of -1. -/
theorem test_load_point :
    let s := after loaded [.loadPoint 1 (pointBody 500)]
    (code s, (s.ms.points.get 255).map fun r => (r.zeroOffset, r.filterShift, r.persistClear, r.fallCount))
      = (some .ok, some (-1, 7, 6000, 1)) := by decide

/-- R7's example with H = 15,000 is refused. -/
theorem test_load_point_gap : code (after loaded [.loadPoint 1 (pointBody 15000)]) = some .range := by decide

theorem test_load_station :
    (code (after loaded [.loadStation 1 [62, 3, 31]]), code (after loaded [.loadStation 1 [62, 3, 32]])) = (some .ok, some .range) := by
  decide

theorem test_load_line :
    (after loaded [.loadLine 1 (joinFields [1, 2, 2, 1, 3] [0, 65535, 0, 9, 115200])]).ms.lineOf 0 = ⟨2000, 10, 7, 115200⟩ := by
  decide

theorem test_load_tier :
    (after loaded [.loadTier 1 (joinFields [1, 3, 3, 2] [3, 1048575, 0, 65535])]).ms.tiers.ip = ⟨1048575, 0, 36000⟩ := by decide

theorem test_read_segment :
    contents (after live [.readSegment 1 (joinFields [2] [12])])
      = some (.segment ⟨.lp, 640, 1, 0⟩ ⟨1000, 500, 3000⟩ (some [6, 7]) (some [30]) (some ⟨true, .noData, .inService, none, none⟩))
    := by decide

theorem test_read_valve :
    contents (after live [.readValve 1 (joinFields [2] [7])])
      = some (.valve (lineValve 12 13 2) (some ⟨.opened, .opened, some .remote, false, false, false, none⟩)) := by decide

theorem test_read_point_absent : code (after live [.readPoint 1 [29]]) = some .notFound := by decide

theorem test_read_station :
    contents (after live [.readStation 1 [63]])
      = some (.station ⟨3, 31⟩ ⟨100, 300, 3, 38400⟩ (some []) (some []) (some ⟨.healthy, 0, none⟩)) := by decide

theorem test_station_stats :
    let s := live.setStation 20 { StationLive.reset with stats := { Statistics.zero with timeouts := ⟨40000, true⟩ } }
    let t := after s [.stationStats 1 [20, 1]]
    (contents t, (t.station 20).stats) = (some (.statistics { Statistics.zero with timeouts := ⟨40000, true⟩ }), .zero) := by decide

/-! ## Field lines -/

/-- Leaving CONFIGURE starts the scan of the outstation at the lowest address (R18, R25). -/
theorem test_lines_start :
    ((started.controller 2).state, (started.controller 0).state, (started.controller 3).state)
      = (.inTransaction (.scan 20), .idle, .inTransaction (.scan 63)) := by decide

/-- A report gives the valves on outstation 20 their positions (R60) and ends the only scan of the pass. -/
theorem test_station_report :
    let s := after live [.stationReport 2 (report [] [1, 2, 0, 3]) .pointsFirst]
    ([0, 5, 7, 8].map (fun v => (s.vou.valves.get v).map fun x => (x.position, x.limitFault)), (s.station 20).stats.goodReplies.value,
        (s.controller 2).cycleCount)
      = ([some (.opened, false), some (.closed, false), some (.travel, false), some (.opened, true)], 1, 1) := by decide

/-- Section 4.13: an ACCEPT for a slot that an ABORT has marked ends it ABORTED_LATE. -/
theorem test_order_answer :
    let s := withOrder 0 { anOrder .sent 7 .close .host with abortRequested := true } live
    let s := s.setController 2 { s.controller 2 with state := .inTransaction (.order 20 0) }
    let t := after s [.orderAnswer 2 (fieldFrame 4 0x82 [2, 1]) .pointsFirst]
    (t.slot 0, noticed t .operations) = (none, [.orderOutcome (some 0) 7 .close .host .abortedLate 0]) := by decide

theorem test_bad_reply :
    ((after live [.badReply 2 [4, 0x81, 25] .pointsFirst]).station 20 |> fun x => (x.counter, x.stats.badReplies.value)) = (8, 1) := by
  decide

theorem test_reply_timeout :
    ((after live [.replyTimeout 2 .pointsFirst]).station 20 |> fun x => (x.counter, x.stats.timeouts.value)) = (8, 1) := by decide

theorem test_quiet_wait_end :
    let s := live.setController 0 { live.controller 0 with state := .quiet, cycleCount := 7 }
    ((after s [.quietWaitEnd 0]).controller 0).cycleCount = 0 := by decide

/-! ## Expiries -/

/-- Section 9.6: the first expiry of a deadline makes stage 1 and starts the reminder of the grade. -/
theorem test_incident_expiry :
    let s := withIncidents [anIncident 4 1] live
    let t := after (s.withTb { s.tb with due := [4] }) [.incidentDeadlineExpiry 4]
    ((t.incident 1).map (·.stage), (t.channel 4).remaining, (t.channel 4).mode, t.tb.due) = (some 1, some 18000, .periodic, []) := by
  decide

/-- R118, R119, R179: a reminder that expires at the tick before an upgrade escalates first, in its old grade; the upgrade
then brings the next one forward to the reminder interval of P1. -/
theorem test_expiry_comes_before_upgrade :
    let ending := { Channel.loaded 18000 .periodic true with count := 1 }
    let s := withIncidents [anIncident 4 1] (live.withTb { live.tb with channels := live.tb.channels.setIfInBounds 4 ending })
    let t := after s [.tick, .floor 1 [0, 1, 1]]
    ((t.incident 1).map (fun i => (i.stage, i.grade)), (t.channel 4).remaining, t.tb.due, (noticed t .operations).head?)
      = (some (1, .p1), some 6000, [], some (.escalation 1 .p2 .opened 1 1 10000)) := by decide +kernel

/-- Section 7.9: valve 7's order ends TRAVEL_TIMEOUT with the travel fault set, and the context searches again. -/
theorem test_order_expiry :
    let s := withOrder 2 (anOrder .moving 7 .close (.context 0)) (live.setContext 0 { aContext .executing with
      boundary := [⟨6, .crew, .openTodo, false⟩, ⟨7, .remote, .ordered, false⟩] })
    let t := after (s.withTb { s.tb with due := [50] }) [.orderChannelExpiry 2]
    ((t.vou.valves.get 7).map (·.travelFault), (t.context 0).boundary, (t.context 0).state, (t.context 0).searchNumber)
      = (some true, [⟨6, .crew, .openTodo, false⟩, ⟨7, .remote, .failed, true⟩], .searching, 2) := by decide

theorem test_context_expiry :
    let s := live.setContext 0 { aContext .closedWait with decaySet := [⟨30, 100000, false⟩] }
    let t := after (s.withTb { s.tb with due := [60] }) [.contextChannelExpiry 0]
    ((t.context 0).state, (t.context 0).suspects) = (.holding, [6, 7]) := by decide

/-- R167: 640 off supply for 600 ds make 640 customer-minutes. -/
theorem test_outage_expiry :
    let t := after (outage.withTb { outage.tb with due := [68] }) [.outageChannelExpiry 0]
    (noticed t .service, (t.outage 0).accumulator) = ([.outageProgress 0 1 1 640 1 0 0 640], 384000) := by decide

/-! ## The engine -/

/-- With valves 6 and 7 blocking, segment 12 is no longer fed (R92, R93). -/
theorem test_trace_complete :
    let t := after (live.withMe { live.me with state := .tracing [0, 5, 8, 511] false }) [.traceComplete]
    (t.me.state, [10, 11, 12, 13].map t.me.fed.get, (t.ou.services.get 12).map (·.state))
      = (.idle, [some true, some true, some false, some true], some .offSupply) := by decide

/-- The running search of context 0 from its seed, at a place. -/
def search (valveAt : Nat) (boundary : List (Nat × CloseAction)) : Search :=
  ⟨0, 1, false, [], [12], boundary, [], 0, valveAt, none, .zone, false⟩

/-- The part while that search runs. -/
def searching (r : Search) : State :=
  (live.setContext 0 { Context.freeWith 1 with state := .searching, seeds := [12] }).withMe { live.me with state := .searching r }

/-- Section 7.9: valve 6, MANUAL, joins the boundary with action CREW. -/
theorem test_search_step :
    (after (searching (search 0 [])) [.searchStep]).me.state = .searching (search 1 [(6, .crew)]) := by decide

/-- Section 7.9: the collateral trace judges valves 6 and 7 blocking. -/
theorem test_search_zone_complete :
    (after (searching (search 2 [(6, .crew), (7, .remote)])) [.searchZoneComplete]).me.state
      = .searching { search 2 [(6, .crew), (7, .remote)] with phase := .collateral [0, 5, 8, 511] } := by decide

/-- Section 7.9, the first result. -/
theorem test_search_complete :
    let t := after (searching { search 2 [(6, .crew), (7, .remote)] with phase := .collateral [0, 5, 8, 511] }) [.searchComplete]
    ((t.context 0).state, (t.context 0).revision, (t.context 0).zone, (t.context 0).boundary, (t.context 0).sums)
      = (.planned, 1, [12], [⟨6, .crew, .openTodo, false⟩, ⟨7, .remote, .openTodo, false⟩], ⟨640, 1, 0, 0⟩) := by decide

/-! ## Calls and incidents -/

/-- The body of a CALL (section 11.10). -/
def callBody (reference kind key presence segment : Nat) : List Byte := joinFields [4, 1, 3, 1, 2] [reference, kind, key, presence, segment]

/-- Section 6.13, call 1001: incident 1 in slot 0, P2, for 72,000 ds. -/
theorem test_call_opens :
    let t := after live [.call 1 (callBody 1001 2 (1201 * 4096 + 806) 0 0)]
    (contents t, (t.incident 1).map (fun i => (i.slot, i.grade, i.maskWidth)), (t.channel 0).remaining, t.it.nextSerial)
      = (some (.call (.opened 1 none)), some (0, .p2, 2), some 72000, 2) := by decide +kernel

/-- Section 6.13, call 1002 attaches and gives its segment; call 1003's cell lies in the next block. -/
theorem test_call_attaches :
    let s := withIncidents [{ anIncident 0 1 with segment := none }] live
    let t := after s [.call 1 (callBody 1002 1 (1202 * 4096 + 805) 1 12)]
    (contents t, (t.incident 1).map (fun i => (i.segment, i.grade)),
        contents (after s [.call 1 (callBody 1003 3 (1204 * 4096 + 806) 1 12)]))
      = (some (.call (.attached 1 2)), some (some 12, .p2), some (.call (.opened 2 none))) := by decide +kernel

theorem test_attend :
    let t := after ((withIncidents [anIncident 4 1] live).startChannel 4 72000 .single true) [.attend 1 [0, 1]]
    ((t.incident 1).map (·.state), (t.channel 4).running) = (some .attended, false) := by decide

theorem test_made_safe :
    (after (withIncidents [anIncident 4 65535] live) [.madeSafe 1 [255, 255]] |>.incident 65535).map (·.state) = some .madeSafe := by
  decide

theorem test_close_incident :
    (after (withIncidents [anIncident 0 1, anIncident 1 2] live) [.closeIncident 1 [0, 2]] |>.it.incidents) = [anIncident 0 1] := by
  decide

theorem test_close_incident_with_context :
    code (after (withIncidents [{ anIncident 0 1 with context := some 0 }] live) [.closeIncident 1 [0, 1]]) = some .state := by decide

/-- Section 6.14: FLOOR none lets the grade fall to that of the one call. -/
theorem test_floor :
    let s := withIncidents [{ anIncident 0 1 with grade := .p1, floor := some .p1 }] live
    contents (after s [.floor 1 [0, 1, 4]]) = some (.grade .p2) := by decide

theorem test_read_incident :
    contents (after ((withIncidents [anIncident 4 1] live).startChannel 4 432000 .single true) [.readIncident 1 [0, 1]])
      = some (.incident (anIncident 4 1) ⟨true, .single, 7, 61715, some 432005⟩) := by decide

/-! ## Contexts -/

/-- Section 7.9: PLAN for incident 7, seed 12. -/
theorem test_plan :
    let t := after (withIncidents [anIncident 0 7] live) [.plan 1 [0, 7, 1, 0, 12, 0]]
    (contents t, (t.context 0).state, (t.context 0).searchNumber, (t.incident 7).map (·.context))
      = (some (.context 0), .searching, 1, some (some 0)) := by decide

/-- Section 7.9: EXECUTE leaves valve 6 as crew work and valve 7 ORDERED. -/
theorem test_execute :
    contents (after (planned .planned) [.execute 1 [0]])
      = some (.executed [(6, .crew, .openTodo), (7, .remote, .ordered)] .executing) := by decide

theorem test_extend :
    let t := after (planned .confirmed) [.extend 1 (joinFields [1, 1, 2, 1, 2] [0, 1, 6, 1, 13])]
    ((t.context 0).state, (t.context 0).barred, (t.context 0).extensionSeeds) = (.searching, [6], [13]) := by decide

theorem test_confirm :
    (after (planned .holding) [.confirm 1 [0]] |>.context 0 |> fun c => (c.state, c.operatorConfirmed)) = (.confirmed, true) := by decide

/-- A valve the context closed is ordered OPEN again (R151, R152). -/
theorem test_release :
    let s := live.setContext 0 { aContext .confirmed with boundary := [⟨7, .remote, .closed, true⟩] }
    let s := s.setValve 7 ⟨.closed, .closed, some .remote, false, false, false, none⟩
    contents (after s [.release 1 [0]]) = some (.released [⟨7, some .remote, .ordered, none⟩] .releasing) := by decide

/-- R151: the table is taken in its order, so a valve that is OPEN is OPENED, whatever order is live for it. -/
theorem test_release_of_an_open_valve :
    let s := live.setContext 0 { aContext .confirmed with boundary := [⟨7, .remote, .ordered, true⟩] }
    contents (after (withOrder 0 (anOrder .moving 7 .close (.context 0)) s) [.release 1 [0]])
      = some (.released [⟨7, none, .opened, none⟩] .free) := by decide

theorem test_cancel :
    let t := after (planned .planned) [.cancel 1 [0]]
    (code t, t.context 0) = (some .ok, .freeWith 1) := by decide

theorem test_read_context :
    contents (after live [.readContext 1 [7]]) = some (.contextRecord (.freeWith 0) [] ⟨false, .single, 1, 1, none⟩) := by decide

/-! ## Orders and valves -/

/-- Section 4.13: a CLOSE of priority 2 at t = 7000 takes slot 0. -/
theorem test_order :
    let t := after (live.withTb { live.tb with time := 7000 }) [.order 1 (joinFields [2, 1, 1, 1] [7, 1, 2, 0])]
    (contents t, t.slot 0)
      = (some (.slot 0), some ⟨.waiting, 7, .close, 2, .host, false, 0, false, 7000⟩) := by decide

theorem test_order_done_already :
    (after live [.order 1 (joinFields [2, 1, 1, 1] [7, 2, 2, 0])] |> fun t => (contents t, t.slot 0)) = (some .doneAlready, none) := by
  decide

theorem test_recall :
    let s := live.setValve 7 ⟨.opened, .opened, some .crew, false, false, false, none⟩
    (contents (after s [.recall 1 [0, 7, 0, 0]]), code (after live [.recall 1 [0, 7, 0, 0]])) = (some (.slot 0), some .authority) := by
  decide

theorem test_release_local : contents (after live [.releaseLocal 1 [0, 7, 3, 1]]) = some (.slot 0) := by decide

/-- Section 4.13: an ABORT of a SENT order is ACCEPTED, of a MOVING one it ends ABORTED_MOVING. -/
theorem test_abort :
    let sent := after (withOrder 0 (anOrder .sent 7 .close .host) live) [.abort 1 [0]]
    let moving := after (withOrder 0 (anOrder .moving 7 .close .host) live) [.abort 1 [0]]
    (code sent, (sent.slot 0).map (·.abortRequested), moving.slot 0, noticed moving .operations)
      = (some .accepted, some true, none, [.orderOutcome (some 0) 7 .close .host .abortedMoving 0]) := by decide

/-- Section 4.13: HOLD ends slot 0 ABORTED_HOLD, and an order is then refused with HOLD. -/
theorem test_hold :
    let t := after (withOrder 0 { anOrder .waiting 7 .opening .host with attempts := 1 } live) [.hold 1 []]
    (noticed t .operations, code (after t [.order 1 (joinFields [2, 1, 1, 1] [8, 1, 2, 0])]))
      = ([.orderOutcome (some 0) 7 .opening .host .abortedHold 1], some .hold) := by decide

/-- R80: the entry of the waiting list ends first, and returns its context to PLANNED (R144); then the order ends. -/
theorem test_hold_ends_context_orders :
    noticed (after asking [.hold 1 []]) .operations
      = [.orderOutcome none 5 .close (.context 0) .abortedHold 0, .isolationState 0 0 .executing .planned 1 none none none,
        .orderOutcome (some 0) 7 .close (.context 0) .abortedHold 0] := by decide

theorem test_release_hold : (after (live.withVou { live.vou with hold := true }) [.releaseHold 1 []]).vou.hold = false := by decide

theorem test_valve_entry :
    let t := after live [.valveEntry 1 [1, 255, 2]]
    ((t.vou.valves.get 511).map fun x => (x.position, x.settled)) = some (.closed, .closed) := by decide

theorem test_valve_entry_remote : code (after live [.valveEntry 1 [0, 7, 2]]) = some .state := by decide

theorem test_inhibit :
    let s := live.setValve 7 ⟨.opened, .opened, some .remote, true, true, false, none⟩
    contents (after s [.inhibit 1 [0, 7, 1, 1]]) = some (.flags true true false) := by decide

theorem test_read_orders :
    (contents (after live [.readOrders 1 []]))
      = some (.orders (.replicate 12 ⟨none, none⟩) false 0 (.replicate 8 ⟨0, none⟩)) := by decide

/-! ## Outages and notices -/

/-- RELIGHT_DONE empties the record, which closes (R160, R169). -/
theorem test_relight_done :
    let t := after outage [.relightDone 1 [0, 12]]
    (contents t, (t.outage 0).state, (t.channel 68).running, (t.ou.services.get 12).map (·.state))
      = (some (.relit 0 0 640), .closed, false, some .inService) := by decide

theorem test_read_outage :
    (contents (after outage [.readOutage 1 [0]])).map (fun r => match r with | .outage _ _ m left => (m, left) | _ => (0, none))
      = some (640, some 18000) := by decide

theorem test_discard_outage :
    (code (after outage [.discardOutage 1 [0]]), code (after live [.discardOutage 1 [15]])) = (some .state, some .notFound) := by
  decide

/-- FETCH of one notice takes SAFETY before OPERATIONS (R186), whatever was posted first. -/
theorem test_fetch :
    let s := (live.post .operations (.modeChanged .configure .observe)).post .safety (.incidentTableFull 3 12)
    contents (after s [.fetch 1 [0]])
      = some (.fetch ⟨0, false, 1, 1, 0⟩ ⟨1, false, 1, 0, 0⟩ ⟨0, false, 0, 0, 0⟩ [⟨2, .safety, 0, .incidentTableFull 3 12⟩]) := by decide

/-! ## Witnesses: what meets the hypotheses of each obligation -/

/-- A bank stays sound when a channel is started. -/
theorem sound_started {s : State} (h : s.tb.Sound) (n d : Nat) (m : TimerMode) (g : Bool) : (s.startChannel n d m g).tb.Sound :=
  TimerBank.sound_set h n (Channel.sound_loaded d m g)

/-- The bank after reset is sound, so any bank that is still it. -/
theorem sound_bank {s : State} (h : s.tb = .reset) : s.tb.Sound := by
  intro c hc
  rw [h] at hc
  rw [(Vector.mem_replicate.mp hc).2]
  exact Channel.sound_reset

theorem witness_StepRunsFrontCommand :
    (live.withPending [.tick, .hold 1 []]).pending = .tick :: [.hold 1 []] ∧ live.pending = [] := by decide

theorem witness_HeldInResetStopsThePart :
    (∀ rate site, Instr.tick ≠ .powerOn rate site ∧ Instr.tick ≠ .resetPin rate site)
      ∧ (live.withCrl { live.crl with held := true }).crl.held = true ∧ Instr.tick.wellFormed = true
      ∧ Instr.tick ≠ .heldInReset :=
  ⟨by simp, by decide⟩

/-- The part with a request list. -/
def queued (l : List Request) : State := live.withCrl { live.crl with requests := l }

/-- STATUS as the link receives it. -/
def aRequest : Request := ⟨0x02, 1, []⟩

theorem witness_RequestWaitsItsTurn :
    (∀ n, n = 3 ∨ n = 4 → (queued (.replicate n aRequest)).Finds (queued (.replicate n aRequest))
        ∧ (queued (.replicate n aRequest)).crl.requests = aRequest :: .replicate (n - 1) aRequest)
      ∧ (Instr.ident 1 []).wellFormed = true ∧ (Instr.ident 1 []).request = some ⟨0x01, 1, []⟩
      ∧ aRequest ≠ ⟨0x01, 1, []⟩
      ∧ (List.replicate 3 aRequest).length < 4 ∧ 4 ≤ (List.replicate 4 aRequest).length := by
  refine ⟨?_, by decide⟩
  rintro n (rfl | rfl) <;> exact ⟨finds, by decide⟩

theorem witness_UnfitRequestsAreAnswered :
    live.Takes ⟨0x03, 1, []⟩ live ∧ live.Takes ⟨0x7F, 1, []⟩ live ∧ live.Takes ⟨0x80, 1, []⟩ live
      ∧ (∀ k t b, Instr.setMode 1 [] ≠ .unknownKind k t b)
      ∧ (Instr.setMode 1 []).request = some ⟨0x03, 1, []⟩ ∧ requestWidths 0x03 [] = some [1]
      ∧ ([] : List Byte).length ≠ [1].sum ∧ catalogue.contains (0x7F : Byte).toNat = false
      ∧ catalogue.contains (0x80 : Byte).toNat = false ∧ catalogue.contains (0x60 : Byte).toNat = true :=
  ⟨takes, takes, takes, by simp, by decide⟩

theorem witness_LinkFramesAreReceived :
    (queued (.replicate 3 aRequest)).crl.held = false ∧ (queued (.replicate 3 aRequest)).crl.receiver = none
      ∧ (queued (.replicate 3 aRequest)).crl.requests.length < 4 ∧ (zeros 1024).length ≤ 1024
      ∧ numberOf [0, 0] ≠ (crc16 (bytesOf 2 1 ++ 1 :: 9 :: [7])).toNat ∧ 1024 < numberOf [4, 1]
      ∧ 4 ≤ (queued (.replicate 4 aRequest)).crl.requests.length ∧ (queued (.replicate 4 aRequest)).crl.held = false
      ∧ (queued (.replicate 4 aRequest)).crl.receiver = none ∧ (0xA4 : Byte) ≠ 0xA5 := by decide

/-- The part with the first channel at 2 ds, the last at 1, and channel 50 gated. -/
def timed : State :=
  ((live.startChannel 0 2 .single true).startChannel 83 1 .periodic true).startChannel 50 600 .single false

theorem timed_sound : timed.tb.Sound :=
  sound_started (sound_started (sound_started (sound_bank (s := live) (by decide)) _ _ _ _) _ _ _ _) _ _ _ _

/-- The part with the expiries of an incident slot and of an order slot left to deliver. -/
def leftDue : State :=
  let s := withIncidents [anIncident 47 1] (withOrder 11 (anOrder .moving 7 .close .host) live)
  s.withTb { s.tb with due := [47, 59] }

theorem witness_TickCounts :
    timed.Finds timed ∧ timed.tb.Sound ∧ leftDue.Finds leftDue.deliverDue
      ∧ leftDue.tb.due = 47 :: [59] ∧ expiryCommand 47 = some (.incidentDeadlineExpiry 47) ∧ leftDue.deliverDue.tb.due = []
      ∧ (timed.channel 1).running = false ∧ (timed.channel 50).gateOpen = false
      ∧ (timed.channel 0).gateOpen = true ∧ (timed.channel 0).remaining = some (0 + 2) ∧ (timed.channel 83).gateOpen = true
      ∧ (timed.channel 83).remaining = some 1 ∧ (timed.channel 83).mode = .periodic
      ∧ (live.startChannel 0 1 .single true |>.channel 0 |> fun c => (c.gateOpen, c.remaining, c.mode)) = (true, some 1, .single) :=
  ⟨finds, timed_sound, ⟨by decide, rfl⟩, by decide⟩

theorem witness_ChannelsTakeTheirCommands :
    (timed.channel 83).running = true ∧ (timed.channel 1).running = false ∧ 83 ≠ 1 ∧ 0 < actualDuration 0
      ∧ 65537 < actualDuration 65537 := by decide

theorem witness_TimersStaySound : (timed.withPending [.tick]).tb.Sound ∧ ∃ t, step (timed.withPending [.tick]) = .next t :=
  ⟨timed_sound, _, rfl⟩

/-- The part with a number of SERVICE notices posted. -/
def posted (n : Nat) : State := Nat.repeat (fun s => s.post .service (.incidentTableFull 0 10)) n live

theorem witness_PostingQueuesOrDrops :
    NoticeClass.safety ≠ .service ∧ ((posted 31).nq.queue .service).notices.length < NoticeClass.service.capacity
      ∧ NoticeClass.service.capacity ≤ ((posted 32).nq.queue .service).notices.length := by decide

/-- The part with fifteen notices of 70 bytes posted. -/
def bulky : State :=
  Nat.repeat (fun s => s.post .safety (.isolationState 0 1 .closedWait .holding 1 (some (.replicate 24 511)) none none)) 15 live

/-- What FETCH leaves meets the hypotheses of the stops: after one notice of the SERVICE class, its OVERFLOW; and after
fourteen of 70 bytes, which are the 980. -/
theorem witness_FetchTakesInClassOrder :
    ((posted 33).Takes ⟨0x60, 1, joinFields [1] [0]⟩ (posted 33) ∧ (posted 33).Takes ⟨0x60, 1, joinFields [1] [255]⟩ (posted 33)
        ∧ bulky.Takes ⟨0x60, 1, joinFields [1] [16]⟩ bulky)
      ∧ (posted 33).nq.classOrder.Perm [.safety, .operations, .service]
      ∧ (∀ c, ∀ x ∈ ((posted 33).nq.queue c).notices, x.size ≤ 980)
      ∧ (posted 33).nq.classOrder = [.safety, .operations] ++ .service :: []
      ∧ (∀ b ∈ [NoticeClass.safety, .operations], ((after (posted 33) [.fetch 1 [0]]).nq.queue b).notices = []
          ∧ ((after (posted 33) [.fetch 1 [0]]).nq.queue b).drops = none)
      ∧ ((after (posted 33) [.fetch 1 [0]]).nq.queue .service).drops = none
      ∧ ((after (posted 33) [.fetch 1 [0]]).nq.queue .service).notices.head? = some ⟨1, .service, 0, .incidentTableFull 0 10⟩
      ∧ ((posted 33).nq.queue .service).drops = some (0, 0)
      ∧ (bulky.nq.queue .safety).notices.map (·.size) = List.replicate 15 70
      ∧ ((after bulky [.fetch 1 [16]]).nq.queue .safety).notices.map (·.serial) = [15] :=
  ⟨⟨takes, takes, takes⟩, by decide, (by intro c; cases c <;> decide), by decide⟩

theorem witness_NoticeAccountsBalance :
    ((posted 33).withPending [.fetch 1 [16]]).nq.Sound ∧ ∃ t, step ((posted 33).withPending [.fetch 1 [16]]) = .next t := by
  refine ⟨⟨?_, by decide, by decide⟩, _, rfl⟩
  intro c; cases c <;> exact ⟨by decide, by decide, by decide⟩

/-- IDENT is at the head of the list with another request behind it. -/
theorem witness_IdentReportsThePart :
    (queued [⟨0x01, 1, []⟩, ⟨0x02, 2, []⟩]).Takes ⟨0x01, 1, []⟩ (queued [⟨0x02, 2, []⟩]) :=
  ⟨_, finds, .inr ⟨[⟨0x02, 2, []⟩], by decide, rfl⟩⟩

theorem witness_StatusReportsTheState : (pendingChange live).Takes ⟨0x02, 1, []⟩ (pendingChange live) := takes

/-- ParamTaken and ParamRefused speak of every request of their form; here one for each width of a value. -/
theorem witness_SetParamReadsAndWrites :
    -- the writes that are taken, and refused: a request for each width of a value
    (loaded.Takes ⟨0x04, 1, joinFields ([1, 1, 1, 1] ++ [2]) ([1, 1, 3, 1] ++ [65535])⟩ loaded
        ∧ loaded.Takes ⟨0x04, 1, joinFields ([1, 1, 1, 1] ++ [1]) ([3, 1, 3, 1] ++ [255])⟩ loaded
        ∧ loaded.Takes ⟨0x04, 1, joinFields ([1, 1, 1, 1] ++ [3]) ([6, 1, 3, 1] ++ [1048576])⟩ loaded
        ∧ live.Takes ⟨0x04, 1, joinFields ([1, 1, 1, 1] ++ [2]) ([7, 1, 3, 1] ++ [65535])⟩ live
        ∧ live.Takes ⟨0x04, 1, joinFields ([1, 1, 1, 1] ++ [1, 1, 1, 1]) ([13, 0, 0, 1] ++ [3, 3, 1, 2])⟩ live
        ∧ live.Takes ⟨0x04, 1, joinFields ([1, 1, 1, 1] ++ [1, 1, 1]) ([14, 0, 0, 1] ++ [1, 0, 2])⟩ live)
      -- the reads, and a flag byte above 1
      ∧ (live.Takes ⟨0x04, 1, joinFields [1, 1, 1, 1] [7, 1, 3, 0]⟩ live
        ∧ live.Takes ⟨0x04, 1, joinFields [1, 1, 1, 1] [16, 1, 3, 0]⟩ live
        ∧ live.Takes ⟨0x04, 1, joinFields [1, 1, 1, 1] [3, 1, 3, 0]⟩ live
        ∧ live.Takes ⟨0x04, 1, joinFields [1, 1, 1, 1] [10, 1, 3, 0]⟩ live
        ∧ live.Takes ⟨0x04, 1, joinFields [1, 1, 1, 1] [15, 0, 255, 0]⟩ live
        ∧ live.Takes ⟨0x04, 1, joinFields [1, 1, 1, 1] [7, 1, 3, 255]⟩ live)
      ∧ loaded.crl.mode = .configure ∧ live.crl.mode ≠ .configure ∧ tierOf 3 = some .ip ∧ gradeOf 3 = some .p3
      ∧ ([NoticeClass.service, .safety, .operations] : List NoticeClass).Nodup
      ∧ (optionalOf 1 3).bind (parameterOf 7) = some (.confirmTime .ip) ∧ (optionalOf 0 0).bind (parameterOf 15) = some .outageReminder
      ∧ (∀ n ∈ [0, 16, 255], (optionalOf 0 0).bind (parameterOf n) = none)
      ∧ (∀ n ∈ [1, 2, 3, 4], (optionalOf 1 4).bind (parameterOf n) = none ∧ (optionalOf 0 0).bind (parameterOf n) = none
          ∧ (optionalOf 1 0).bind (parameterOf n) ≠ none ∧ (optionalOf 1 3).bind (parameterOf n) ≠ none)
      ∧ (∀ n ∈ [5, 6, 7, 8, 9, 10], (optionalOf 1 0).bind (parameterOf n) = none ∧ (optionalOf 1 4).bind (parameterOf n) = none
          ∧ (optionalOf 2 1).bind (parameterOf n) = none
          ∧ (optionalOf 1 1).bind (parameterOf n) ≠ none ∧ (optionalOf 1 3).bind (parameterOf n) ≠ none)
      ∧ (∀ n ∈ [11, 12, 13, 14, 15], (optionalOf 1 0).bind (parameterOf n) = none)
      ∧ (∀ codes ∈ [[1, 2], [1, 2, 2], [1, 2, 4], [0, 1, 2], [1, 2, 3, 3]], codes.length < 256 ∧ (∀ a ∈ codes, a < 256)
          ∧ (codes.length ≠ 3 ∨ ¬codes.Nodup ∨ ∃ a ∈ codes, a = 0 ∨ 3 < a)) :=
  ⟨⟨takes, takes, takes, takes, takes, takes⟩, ⟨takes, takes, takes, takes, takes, takes⟩, by decide⟩

/-- The small network with segment 13 in another tier, which fails validation. -/
def unfit : State := loaded.withMs { loaded.ms with segments := loaded.ms.segments.set 13 ⟨.mp, 0, 0, 0⟩ }

theorem witness_SetModeLeavesConfigure :
    (loaded.Takes ⟨0x03, 1, joinFields [1] [2]⟩ loaded ∧ loaded.Takes ⟨0x03, 1, joinFields [1] [3]⟩ loaded
        ∧ unfit.Takes ⟨0x03, 1, joinFields [1] [2]⟩ unfit)
      ∧ (loaded.ms.wf ∧ unfit.ms.wf)
      ∧ loaded.crl.mode = .configure ∧ loaded.crl.pendingConfigure = false ∧ loaded.ms.firstFailure = none
      ∧ unfit.crl.mode = .configure ∧ unfit.crl.pendingConfigure = false
      ∧ unfit.ms.firstFailure = some ⟨.valve, some 7, .valveTierMatch, some 13, none⟩
      ∧ loaded.lineUsed 3 = true ∧ loaded.lineUsed 0 = false :=
  ⟨⟨takes, takes, takes⟩, by unfold ModelStore.wf Table.wf; decide, by decide⟩

/-- The part with a WAITING order of a host in slot 0, a SENT one in slot 1 and a MOVING one in slot 11. -/
def threeOrders : State :=
  withOrder 0 (anOrder .waiting 5 .close .host) (withOrder 1 (anOrder .sent 8 .close .host)
    (withOrder 11 (anOrder .moving 7 .close .host) live))

theorem witness_SetModeInService :
    (∀ v ∈ [0, 1, 2, 3, 4, 255], live.Takes ⟨0x03, 1, joinFields [1] [v]⟩ live
        ∧ (pendingChange live).Takes ⟨0x03, 1, joinFields [1] [v]⟩ (pendingChange live)
        ∧ threeOrders.Takes ⟨0x03, 1, joinFields [1] [v]⟩ threeOrders ∧ asking.Takes ⟨0x03, 1, joinFields [1] [v]⟩ asking)
      ∧ (pendingChange live).crl.pendingConfigure = true ∧ live.crl.pendingConfigure = false ∧ live.crl.mode = .supervise
      ∧ modeOf 2 = some live.crl.mode ∧ (inMode .observe live).crl.mode = .observe
      ∧ (withIncidents [anIncident 0 1] live).mayConfigure = false ∧ live.mayConfigure = true
      -- orders that end, orders that run on, and none at all
      ∧ threeOrders.slot 0 = some (anOrder .waiting 5 .close .host) ∧ (threeOrders.vou.valves.get 5).map (·.slot) = some (some 0)
      ∧ threeOrders.slot 11 = some (anOrder .moving 7 .close .host) ∧ threeOrders.vou.waiting = [] ∧ threeOrders.mayConfigure = true
      ∧ (∀ k, k < 12 → (threeOrders.slot k).map (·.action) ≠ some .recall) ∧ (∀ k, k < 12 → live.slot k = none)
      ∧ (∀ k, k < 12 → (threeOrders.slot k).map (·.origin) ∈ [none, some .host])
      ∧ (∀ n, n < 16 → (live.outage n).state ≠ .active)
      -- a context that asked
      ∧ (asking.context 0).state = .executing ∧ (∃ e ∈ asking.vou.waiting, e.context = 0 ∧ e.valve = 5 ∧ e.action = .close)
      ∧ asking.slot 0 = some (anOrder .waiting 7 .close (.context 0))
      ∧ (∃ e ∈ (asking.context 0).boundary, e.valve = 5) ∧ (∃ e ∈ (asking.context 0).boundary, e.valve = 7) :=
  ⟨fun _ _ => ⟨takes, takes, takes, takes⟩, by decide⟩

theorem witness_LinkAndModeStaySound :
    ((queued (.replicate 4 ⟨0x01, 1, []⟩)).withPending [.ident 1 []]).crl.Sound
      ∧ (∃ t, step ((queued (.replicate 4 ⟨0x01, 1, []⟩)).withPending [.ident 1 []]) = .next t)
      ∧ (loaded.withPending [.setMode 1 [2]]).NoLiveState ∧ ∃ t, step (loaded.withPending [.setMode 1 [2]]) = .next t :=
  ⟨⟨by decide, by decide⟩, ⟨_, rfl⟩, fun _ => ⟨rfl, rfl, rfl, rfl, rfl⟩, _, rfl⟩

theorem witness_LoadsWriteTheirRecord :
    (loaded.Takes ⟨0x11, 1, joinFields [2, 1, 2, 1, 3] [383, 3, 65535, 255, 16777215]⟩ loaded
        ∧ loaded.Takes ⟨0x14, 1, joinFields [1, 1, 1] [63, 3, 31]⟩ loaded
        ∧ loaded.Takes ⟨0x15, 1, joinFields [1, 2, 2, 1, 3] [3, 65535, 65535, 255, 115200]⟩ loaded
        ∧ loaded.Takes ⟨0x16, 1, joinFields [1, 3, 3, 2] [3, 1048575, 1048575, 65535]⟩ loaded
        ∧ loaded.Takes ⟨0x10, 1, []⟩ loaded)
      ∧ (∀ k ∈ [0x10, 0x11, 0x12, 0x13, 0x14, 0x15, 0x16], ∀ n, live.Takes ⟨k, 1, zeros n⟩ live)
      ∧ loaded.crl.mode = .configure ∧ live.crl.mode ≠ .configure
      ∧ ([0, 9, 17, 34, 3, 9, 9].map fun n => (zeros n).length) = [0, 9, 17, 34, 3, 9, 9] :=
  ⟨⟨takes, takes, takes, takes, takes⟩, fun _ _ _ => takes, by decide⟩

/-- The fields of a LOAD_VALVE. -/
def someFields : ValveFields := ⟨1, 1, 12, 13, 1, 1, 63, 255, 2, 0, 7200⟩

theorem witness_ValvesAndPointsAreLoaded :
    someFields.Describe ⟨.line, .segment 12, 13, .remote, some 63, some 255, .closed, 1, 6000⟩
      ∧ (∀ r, ¬({ someFields with kind := 4 } : ValveFields).Describe r)
      ∧ loaded.Takes ⟨0x12, 1, joinFields [2, 1, 1, 2, 2, 1, 1, 1, 1, 1, 2, 2] [511, 1, 1, 12, 13, 1, 1, 63, 255, 2, 0, 7200]⟩ loaded
      ∧ loaded.Takes ⟨0x13, 1, pointBody 500⟩ loaded
      ∧ ({ point 12 4 with zeroOffset := -1 } : PointRec).zeroOffset
          = (if (16777215 : Nat) < 8388608 then ((16777215 : Nat) : Int) else ((16777215 : Nat) : Int) - 16777216)
      ∧ 511 < 512 := by
  refine ⟨?_, ?_, takes, takes, by decide⟩
  · exact ⟨rfl, rfl, rfl, rfl, by decide, .inr ⟨by decide, rfl, by decide, by decide, rfl⟩,
      .inr ⟨by decide, rfl, by decide, rfl, rfl⟩, rfl, rfl⟩
  · intro r h
    exact absurd h.1 (by simp [valveKindOf])

theorem witness_ReadsReportTheModel :
    live.Takes ⟨0x18, 1, joinFields [2] [383]⟩ live ∧ live.Takes ⟨0x19, 1, joinFields [2] [511]⟩ live
      ∧ live.Takes ⟨0x1A, 1, joinFields [1] [255]⟩ live ∧ live.Takes ⟨0x1B, 1, joinFields [1] [63]⟩ live :=
  ⟨takes, takes, takes, takes⟩

/-- The smallest valid model: one segment and its FEED valve. -/
def smallest : ModelStore := { ModelStore.reset with
  segments := ⟨[(383, ⟨.ip, 0, 0, 0⟩)]⟩, valves := ⟨[(511, ⟨.feed, .source, 383, .manual, none, none, .opened, 1, 10⟩)]⟩ }

theorem smallest_valid : smallest.Valid := by
  have seg : ∀ g r, smallest.segments.get g = some r → g = 383 ∧ r = ⟨.ip, 0, 0, 0⟩ := by
    intro g r h; have := rowGet_some _ _ _ h; simp [smallest] at this; exact this
  have valve : ∀ i v, smallest.valves.get i = some v → i = 511 ∧ v = ⟨.feed, .source, 383, .manual, none, none, .opened, 1, 10⟩ := by
    intro g r h; have := rowGet_some _ _ _ h; simp [smallest] at this; exact this
  refine ⟨?_, ?_, ?_, ?_, 511, _, rfl, rfl⟩
  · intro g r h; obtain ⟨rfl, rfl⟩ := seg g r h; decide
  · intro i v h
    obtain ⟨rfl, rfl⟩ := valve i v h
    exact ⟨by simp, by decide, by simp, by simp⟩
  · intro i p h; cases h
  · intro i r h; cases h

theorem witness_ValidationIsExact :
    smallest.Valid ∧ ¬ModelStore.reset.Valid ∧ (smallest.wf ∧ loaded.ms.wf ∧ ModelStore.reset.wf)
      ∧ loaded.ms.segments.get 13 = some ⟨.lp, 410, 0, 0⟩ ∧ loaded.ms.segments.get 14 = none
      ∧ loaded.ms.stations.get 63 = some ⟨3, 31⟩ ∧ loaded.ms.stations.get 0 = none := by
  refine ⟨smallest_valid, ?_, by unfold ModelStore.wf Table.wf; decide, by decide⟩
  rintro ⟨-, -, -, -, i, v, h, -⟩; cases h

theorem witness_ModelStandsInService :
    (live.withPending [.hold 1 []]).Finds (live.withPending [.hold 1 []]) ∧ (live.withPending [.hold 1 []]).crl.mode ≠ .configure
      ∧ (live.holdReset.withPending [.tick]).crl.held = true ∧ (∃ t, step (live.holdReset.withPending [.tick]) = .next t)
      ∧ (live.withPending [.hold 1 []]).ModelValid ∧ (live.withPending [.hold 1 []]).ms.wf
      ∧ ∃ t, step (live.withPending [.hold 1 []]) = .next t :=
  ⟨finds, by decide, by decide, ⟨_, rfl⟩, fun _ => by decide, by unfold ModelStore.wf Table.wf; decide, _, rfl⟩

/-- A change to CONFIGURE is pending, and the travel channel of the last MOVING order has run out at the last tick. -/
def leaving : State := pendingChange ((withOrder 11 (anOrder .moving 7 .close .host) live).withTb { live.tb with due := [59] })

/-- A LOAD_SEGMENT finds that change made, and is taken (R179, R198). -/
theorem test_load_finds_configure :
    leaving.crl.mode = .supervise ∧ code (after leaving [.loadSegment 1 (joinFields [2, 1, 2, 1, 3] [14, 1, 5, 0, 0])]) = some .ok
      ∧ (leaving.deliverDue.crl.mode, leaving.deliverDue.slot 11) = (.configure, none) := by decide

theorem witness_HealthFollowsTheCounter :
    (⟨.healthy, 63, 0, .zero⟩ : StationLive).Sound
      ∧ (⟨.lost, 131, 3, .zero⟩ : StationLive).health = .lost ∧ 3 ≤ (⟨.lost, 131, 3, .zero⟩ : StationLive).goodRun
      ∧ ¬(true = true ∧ true = true ∧ 3 ≤ (⟨.lost, 128, 2, .zero⟩ : StationLive).goodRun)
      ∧ (⟨.degraded, 127, 0, .zero⟩ : StationLive).health ≠ .lost :=
  ⟨⟨by decide, by simp, by simp, by decide, by simp, by intro n; cases n <;> decide⟩, by decide⟩

/-- The part with the VALVE ORDER of slot 11 in flight to outstation 20. -/
def ordering : State :=
  let s := withOrder 11 (anOrder .sent 7 .close .host) live
  s.setController 2 { s.controller 2 with state := .inTransaction (.order 20 11) }

theorem witness_TransactionEnds :
    live.Finds live ∧ ordering.Finds ordering ∧ live.ms.wf
      ∧ live.crl.pendingConfigure = false ∧ 20 < 64 ∧ live.ms.stations.get 20 = some ⟨2, 4⟩
      ∧ (live.controller 2).state = .inTransaction (.scan 20)
      ∧ judgeField 4 .report (report [] []) = .report (.ofBody (((report [] []).drop 3).take 24))
      ∧ judgeField 4 .report [4, 0x81, 25] = .bad
      ∧ ordering.crl.pendingConfigure = false ∧ ordering.ms.stations.get 20 = some ⟨2, 4⟩
      ∧ ordering.slot 11 = some (anOrder .sent 7 .close .host) ∧ (ordering.controller 2).state = .inTransaction (.order 20 11)
      ∧ (∀ p ∈ [(1, TransactionResult.accept), (2, .rejectLocal), (3, .rejectFault), (4, .busy)],
          judgeField 4 (.answer (ordering.channelOf 7)) (fieldFrame 4 0x82 [2, .ofNat 8 p.1]) = .answer p.2)
      ∧ judgeField 4 (.answer (ordering.channelOf 7)) (fieldFrame 4 0x82 [2, 5]) = .bad
      ∧ (live.controller 3).state = .inTransaction (.scan 63) ∧ live.ms.stations.get 63 = some ⟨3, 31⟩
      ∧ live.ms.derived = some live.ms.derive
      ∧ live.pe.conditions.get 12 = some .noData ∧ conditionOf [some Zone.lowAlarm] ≠ .noData
      ∧ (live.station 20).health = .healthy
      ∧ ((⟨.healthy, 63, 0, .zero⟩ : StationLive).afterTransaction false true).health = .degraded
      ∧ ((⟨.degraded, 32, 0, .zero⟩ : StationLive).afterTransaction true true).health = .healthy
      ∧ ((⟨.degraded, 120, 0, .zero⟩ : StationLive).afterTransaction false true).health = .lost
      ∧ ((⟨.lost, 131, 3, .zero⟩ : StationLive).afterTransaction true true).health = .degraded :=
  ⟨finds, finds, by unfold ModelStore.wf Table.wf; decide, by decide⟩

/-- The part with line 3 in the quiet wait of its eighth pass. -/
def quiet : State := live.setController 3 { live.controller 3 with state := .quiet, cycleCount := 7 }

theorem witness_QuietWaitEndsThePass :
    quiet.Finds quiet ∧ (∀ tx, (live.controller 0).state ≠ .inTransaction tx)
      ∧ (quiet.controller 3).state = .quiet ∧ (live.controller 0).state ≠ .quiet := by
  refine ⟨finds, ?_, by decide⟩
  rw [show (live.controller 0).state = .idle from by decide]; simp

/-- The part with a host's CLOSE order waiting in slot 11 while its valve's authority is LOCAL. -/
def barred : State :=
  let s := withOrder 11 (anOrder .waiting 7 .close .host) live
  s.setValve 7 ⟨.opened, .opened, some .crew, false, false, false, some 11⟩

theorem witness_ArbitrationTakesTheBestOrder :
    (withOrder 11 (anOrder .waiting 7 .close .host) live).eligible 2 11 = some 20
      ∧ (withOrder 11 (anOrder .waiting 7 .close .host) live).bestOrder 2 = some (11, 20) ∧ live.bestOrder 2 = none
      ∧ ((live.setController 2 { live.controller 2 with orderRun := 4 }).controller 2).orderRun = 4
      ∧ (live.controller 2).orderRun ≠ 4 ∧ (∀ k, k < 12 → live.slot k = none)
      ∧ barred.slot 11 = some (anOrder .waiting 7 .close .host) ∧ (anOrder .waiting 7 .close .host).stage = .waiting
      ∧ barred.ms.valves.get 7 = some (lineValve 12 13 2) ∧ barred.ms.stations.get 20 = some ⟨2, 4⟩
      ∧ (barred.station 20).health ≠ .lost ∧ barred.crl.mode = .supervise ∧ barred.crl.pendingConfigure = false
      ∧ barred.vou.hold = false ∧ barred.vou.waiting = [] ∧ (anOrder .waiting 7 .close .host).origin = .host
      ∧ (barred.vou.valves.get 7).map (·.authority) = some (some .crew) ∧ (barred.controller 2).orderRun ≠ 4 := by decide

/-- The choice hands a barred order back: it ends REJECTED_LOCAL, and a scan follows (R26). -/
theorem test_barred_order_is_handed_back :
    noticed (barred.chooseTransaction 2) .operations = [.orderOutcome (some 11) 7 .close .host .rejectedLocal 0]
      ∧ (barred.chooseTransaction 2).slot 11 = none ∧ ((barred.chooseTransaction 2).controller 2).state = .inTransaction (.scan 20) := by
  decide

/-- The part at the end of a quiet wait, with a CLOSE order in slot 11 eligible. -/
def ready : State :=
  let s := withOrder 11 (anOrder .waiting 7 .close .host) live
  (s.setController 2 { s.controller 2 with state := .quiet }).withPending [.quietWaitEnd 2]

theorem witness_OrdersAreSentUnderSuperviseOnly :
    ∃ t, step ready = .next t ∧ (t.controller 2).state = .inTransaction (.order 20 11) ∧ t.controller 2 ≠ ready.controller 2
      ∧ (t.slot 11).map (fun o => (o.action, o.valve)) = some (.close, 7) :=
  ⟨_, rfl, by decide⟩

theorem witness_LinesStaySound :
    (live.withPending [.replyTimeout 2 .pointsFirst]).flc.Sound
      ∧ ∃ t, step (live.withPending [.replyTimeout 2 .pointsFirst]) = .next t := by
  refine ⟨⟨?_, ?_⟩, _, rfl⟩
  · intro c hc
    have h : (live.withPending [.replyTimeout 2 .pointsFirst]).flc.controllers
        = #v[⟨.idle, none, 0, 0⟩, ⟨.idle, none, 0, 0⟩, ⟨.inTransaction (.scan 20), some 4, 0, 0⟩,
          ⟨.inTransaction (.scan 63), some 31, 0, 0⟩] := by decide
    rw [h] at hc
    simp at hc
    rcases hc with rfl | rfl | rfl <;> exact ⟨by decide, by decide⟩
  · intro x hx
    rw [show (live.withPending [.replyTimeout 2 .pointsFirst]).flc.stations = .replicate 64 .reset from by decide] at hx
    rw [(Vector.mem_replicate.mp hx).2]
    exact ⟨by decide, by decide, by decide, by decide, by decide, by intro n; cases n <;> decide⟩

theorem witness_FieldFramesAreJudged :
    31 < 256 ∧ (zeros 24).length = 24 ∧ (7 : Nat) < 8 ∧ (zeros 24).length ≤ 24 ∧ 30 ≠ 31
      ∧ numberOf [0, 0] ≠ (crc16 (.ofNat 8 31 :: 0x82 :: .ofNat 8 2 :: [2, 1])).toNat ∧ (0x82 : Byte) ≠ 0x81
      ∧ (0x81 : Byte) ≠ 0x82 ∧ (zeros 23).length ≠ 24 ∧ (zeros 3).length ≠ 2
      ∧ 28 < (fieldFrame 31 0x81 (zeros 24)).length ∧ 24 < (25 : Byte).toNat := by decide

theorem witness_SampleMeasures :
    10923 ≤ 54613 ∧ (54613 - 10923 : Int) * (point 12 0).fullScale / 43690 + (point 12 0).zeroOffset = 200000
      ∧ (10923 - 10923 : Int) * 200000 / 43690 + -2000 < 0 ∧ (1048575 : Int) < (54613 - 10923 : Int) * 1048575 / 43690 + 1
      ∧ 150400 ≠ 149997 ∧ 2 ^ 2 ≤ 150400 - 149997 ∧ 150000 - 149997 < 2 ^ 2 ∧ 600 < 601 ∧ 0 < 600 := by decide

theorem witness_ZonesWaitTheirPersistence :
    (∀ d : Time, (none : Option (Zone × Time)) ≠ some (.lowWarn, d))
      ∧ (point 12 0).lowAlarm + (point 12 0).hysteresis < (point 12 0).lowWarn
      ∧ (point 12 0).lowWarn + 2 * (point 12 0).hysteresis < (point 12 0).highWarn
      ∧ (point 12 0).highWarn + (point 12 0).hysteresis < (point 12 0).highAlarm
      ∧ (∀ f ∈ [59999, 60000, 60499, 60500, 89999, 90000, 90499, 90500, 179500, 179501, 180000, 180001, 194500, 194501, 195000, 195001],
          f < 60000 ∨ 60000 ≤ f ∧ f < 60500 ∨ 60500 ≤ f ∧ f < 90000 ∨ 90000 ≤ f ∧ f < 90500 ∨ 90500 ≤ f ∧ f + 500 ≤ 180000
            ∨ 180000 < f + 500 ∧ f ≤ 180000 ∨ 180000 < f ∧ f + 500 ≤ 195000 ∨ 195000 < f + 500 ∧ f ≤ 195000 ∨ 195000 < f)
      ∧ Zone.lowWarn ≠ .normal ∧ (some (Zone.lowWarn, (1400 : Time)) = some (.lowWarn, 1400))
      ∧ (1400 : Time) = 1350 + .ofNat 32 (if Zone.normal.severity < Zone.lowWarn.severity then (point 12 0).persistEnter
          else (point 12 0).persistClear) :=
  ⟨by simp, by decide⟩

/-- The part with point 30 VALID as before sample 3 of section 3.11, and point 31 AWAITING. -/
def sampled : State := live.withPe { live.pe with
  points := live.pe.points.set 30 ⟨.valid, some 131124, some (-230112), some .normal, none, 1, false, some 1100⟩ }

theorem witness_SampleUpdatesItsPoint :
    (bandOf 27000 = .ok 27000 ∧ bandOf 10376 = .error .underRange ∧ bandOf 55979 = .error .overRange)
      ∧ sampled.ms.points.get 30 = some (point 12 0) ∧ 1 ≤ (point 12 0).fallCount
      ∧ sampled.pe.points.get 30 = some ⟨.valid, some 131124, some (-230112), some .normal, none, 1, false, some 1100⟩
      ∧ sampled.ms.points.get 31 = some (point 13 1)
      ∧ sampled.pe.points.get 31 = some ⟨.awaiting, none, none, none, none, 0, false, none⟩ :=
  ⟨⟨rfl, rfl, rfl⟩, by decide⟩

theorem witness_ConditionCountsTheAlarms :
    sampled.pe.conditions.wf 384 ∧ 13 < 384 ∧ (sampled.pe.conditions.get 13).isSome = true
      ∧ sampled.ms.pointsOf 12 = [30] ∧ sampled.ms.pointsOf 11 = [] := by
  unfold Table.wf; decide

theorem witness_HostOrdersAreCheckedInOrder :
    (live.Takes ⟨0x40, 1, joinFields [2, 1, 1, 1] [511, 1, 3, 1]⟩ live ∧ live.Takes ⟨0x40, 1, joinFields [2, 1, 1, 1] [511, 2, 3, 1]⟩ live
        ∧ live.Takes ⟨0x41, 1, joinFields [2, 1, 1] [511, 3, 1]⟩ live ∧ live.Takes ⟨0x42, 1, joinFields [2, 1, 1] [511, 3, 1]⟩ live
        ∧ live.Takes ⟨0x40, 1, joinFields [2, 1, 1, 1] [511, 3, 3, 1]⟩ live)
      ∧ 511 < 65536 ∧ 3 < 256 ∧ 1 < 256 ∧ (3 : Nat) ≠ 1 ∧ (3 : Nat) ≠ 2 :=
  ⟨⟨takes, takes, takes, takes, takes⟩, by decide⟩

theorem witness_OrderTransactionIsJudged :
    ordering.slot 11 = some (anOrder .sent 7 .close .host) ∧ Health.degraded ≠ .lost
      ∧ (withOrder 0 { anOrder .sent 7 .close .host with abortRequested := true } live).slot 0
          = some { anOrder .sent 7 .close .host with abortRequested := true }
      ∧ (anOrder .sent 7 .close .host).abortRequested = false ∧ ({ anOrder .sent 7 .close .host with oneShot := true } : Order).oneShot = true
      ∧ ordering.retryLimitOf 7 ≤ min (2 + 1) 7 ∧ min (1 + 1) 7 < ordering.retryLimitOf 7
      ∧ ordering.crl.mode = .supervise ∧ ordering.crl.pendingConfigure = false ∧ (pendingChange ordering).crl.pendingConfigure = true
      ∧ ordering.vou.valves.get 7 = some ⟨.opened, .opened, some .remote, false, false, false, some 11⟩
      ∧ ordering.ms.valves.get 7 = some (lineValve 12 13 2) ∧ (ordering.channel (48 + 11)).running = false
      ∧ (∀ a ∈ [Action.close, .opening, .releaseLocal, .recall],
          (withOrder 11 (anOrder .sent 7 a .host) live).slot 11 = some (anOrder .sent 7 a .host))
      ∧ (some Authority.crew : Option Authority) ≠ some .remote := by decide

/-- The part with a host's order in slot 11, of a stage. -/
def oneOrder (stage : OrderStage) : State := withOrder 11 (anOrder stage 7 .close .host) live

theorem witness_AbortEndsOrMarksTheOrder :
    (∀ k ∈ [0, 11, 12, 255], (oneOrder .moving).Takes ⟨0x43, 1, joinFields [1] [k]⟩ (oneOrder .moving))
      ∧ live.crl.pendingConfigure = false ∧ loaded.crl.mode = .configure ∧ live.crl.mode ≠ .configure ∧ live.slot 11 = none
      ∧ (oneOrder .moving).slot 11 = some (anOrder .moving 7 .close .host)
      ∧ (oneOrder .sent).slot 11 = some (anOrder .sent 7 .close .host)
      ∧ (anOrder .moving 7 .close .host).stage ≠ .sent ∧ (anOrder .moving 7 .close .host).origin = .host
      ∧ (anOrder .moving 7 .close .host).action ≠ .recall ∧ live.vou.waiting = []
      ∧ (pendingChange (oneOrder .moving)).crl.pendingConfigure = true
      ∧ (∀ j, j < 12 → j ≠ 11 → (pendingChange (oneOrder .moving)).busySlot j = false)
      ∧ (pendingChange (oneOrder .moving)).busySlot 11 = true
      ∧ (pendingChange (withOrder 0 (anOrder .sent 8 .close .host) (oneOrder .moving))).busySlot 0 = true :=
  ⟨fun _ _ => takes, by decide⟩

theorem witness_HoldStopsTheOrders :
    (inMode .observe live).Takes ⟨0x44, 1, []⟩ (inMode .observe live) ∧ loaded.Takes ⟨0x44, 1, []⟩ loaded
      ∧ asking.Takes ⟨0x44, 1, []⟩ asking ∧ threeOrders.Takes ⟨0x44, 1, []⟩ threeOrders
      ∧ (inMode .observe live).crl.mode ≠ .configure ∧ loaded.crl.mode = .configure ∧ asking.crl.mode ≠ .configure
      ∧ threeOrders.crl.mode ≠ .configure :=
  ⟨takes, takes, takes, takes, by decide⟩

theorem witness_ReleaseHoldClearsTheHold :
    (pendingChange live).Takes ⟨0x45, 1, []⟩ (pendingChange live) ∧ loaded.Takes ⟨0x45, 1, []⟩ loaded
      ∧ (pendingChange live).crl.mode ≠ .configure ∧ loaded.crl.mode = .configure :=
  ⟨takes, takes, by decide⟩

/-- The part with an order in slot 11 and its channel's expiry due. -/
def expiring (stage : OrderStage) (a : Action) : State :=
  let s := withOrder 11 (anOrder stage 7 a .host) live
  s.withTb { s.tb with due := [59] }

theorem witness_OrderChannelRunsOut :
    (48 + (11 : Fin 12).val ∉ live.tb.due)
      ∧ (live.slot (11 : Fin 12).val = none ∧ (expiring .sent .close).slot (11 : Fin 12).val = some (anOrder .sent 7 .close .host)
        ∧ (anOrder .sent 7 .close .host).stage ≠ .moving)
      ∧ ∀ a ∈ [Action.close, .opening, .recall, .releaseLocal],
        (expiring .moving a).crl.held = false ∧ (expiring .moving a).crl.pendingConfigure = false
          ∧ 48 + (11 : Fin 12).val ∈ (expiring .moving a).tb.due
          ∧ (expiring .moving a).slot (11 : Fin 12).val = some (anOrder .moving 7 a .host) ∧ (anOrder .moving 7 a .host).stage = .moving
          ∧ (anOrder .moving 7 a .host).origin = .host ∧ (expiring .moving a).vou.waiting = []
          ∧ (expiring .moving a).vou.valves.get 7 = some ⟨.opened, .opened, some .remote, false, false, false, some 11⟩ := by decide

theorem witness_EntriesAndFlagsAreTaken :
    (∀ v ∈ [510, 511, 512], ∀ a ∈ [0, 1, 2, 3], live.Takes ⟨0x46, 1, joinFields [2, 1] [v, a]⟩ live)
      ∧ (∀ v ∈ [510, 511, 512], ∀ a ∈ [0, 1, 2], live.Takes ⟨0x47, 1, joinFields [2, 1, 1] [v, a, a]⟩ live)
      ∧ loaded.Takes ⟨0x46, 1, joinFields [2, 1] [511, 1]⟩ loaded ∧ loaded.Takes ⟨0x47, 1, joinFields [2, 1, 1] [511, 1, 1]⟩ loaded
      ∧ loaded.crl.mode = .configure ∧ live.crl.mode ≠ .configure ∧ live.ms.valves.get 510 = none ∧ live.vou.valves.get 510 = none
      ∧ (live.ms.valves.get 511).map (·.actuation) = some .manual ∧ (live.ms.valves.get 7).map (·.actuation) = some .remote
      ∧ live.vou.valves.get 511 = some ⟨.opened, .opened, none, false, false, false, none⟩ :=
  ⟨fun _ _ _ _ => takes, fun _ _ _ _ => takes, takes, takes, by decide⟩

theorem witness_LimitsGiveThePosition :
    (∀ o c l, (⟨7, o, c, l⟩ : ValveReading).openLimit = o ∧ (⟨7, o, c, l⟩ : ValveReading).closedLimit = c
          ∧ (⟨7, o, c, l⟩ : ValveReading).localSwitch = l)
      ∧ live.ms.valves.get 7 = some (lineValve 12 13 2)
      ∧ live.vou.valves.get 7 = some ⟨.opened, .opened, some .remote, false, false, false, none⟩
      ∧ (lineValve 12 13 2).actuation = .remote ∧ ({ lineValve 12 13 2 with actuation := .monitored } : ValveRec).actuation ≠ .manual :=
  ⟨fun _ _ _ => ⟨rfl, rfl, rfl⟩, by decide⟩

/-- The part while a trace runs that judged valves 6 and 7 blocking. -/
def tracing (rerun pendingTrace : Bool) : State :=
  live.withMe { live.me with state := .tracing [0, 5, 8, 511] rerun, pendingTrace := pendingTrace }

/-- A search that fails (R130, R131). -/
def failing : Search := { search 0 [] with failure := some .tooLarge }

theorem witness_SearchExaminesOneValve :
    (searching (search 1 [(6, .crew)])).Finds (searching (search 1 [(6, .crew)])) ∧ (∀ r, live.me.state ≠ .searching r)
      ∧ (searching (search 1 [(6, .crew)])).me.state = .searching (search 1 [(6, .crew)])
      ∧ (search 1 [(6, .crew)]).phase = .zone ∧ (search 1 [(6, .crew)]).failure = none
      ∧ (searching (search 1 [(6, .crew)])).nextExamined (search 1 [(6, .crew)]) = some (0, 1, 12, 7)
      ∧ (searching (search 1 [(6, .crew)])).ms.valves.get 7 = some (lineValve 12 13 2)
      ∧ (searching (search 1 [(6, .crew)])).vou.valves.get 7 = some ⟨.opened, .opened, some .remote, false, false, false, none⟩
      ∧ (searching (search 2 [])).nextExamined (search 2 []) = none ∧ failing.failure ≠ none
      ∧ ({ search 2 [] with phase := .collateral [] } : Search).phase ≠ .zone := by
  refine ⟨finds, ?_, by decide⟩
  rw [show live.me.state = .idle from by decide]; simp

/-- The search of section 7.9 in its COLLATERAL phase. -/
def collateralSearch : Search := { search 2 [(6, .crew), (7, .remote)] with phase := .collateral [0, 5, 8, 511] }

theorem witness_SearchDeliversItsResult :
    (searching collateralSearch).Finds (searching collateralSearch) ∧ (searching collateralSearch).ms.segments.wf 384
      ∧ (searching (search 2 [(6, .crew)])).me.state = .searching (search 2 [(6, .crew)])
      ∧ (searching (search 2 [(6, .crew)])).nextExamined (search 2 [(6, .crew)]) = none
      ∧ (searching (search 1 [])).nextExamined (search 1 []) ≠ none ∧ collateralSearch.phase ≠ .zone
      ∧ ({ collateralSearch with rerun := true } : Search).rerun = true
      ∧ collateralSearch.rerun = false ∧ collateralSearch.context < 8
      ∧ (searching collateralSearch).me.pendingTrace = false ∧ (searching collateralSearch).me.queue = []
      ∧ ((searching collateralSearch).context 0).state = .searching
      ∧ ((searching collateralSearch).context 0).searchNumber = collateralSearch.number
      ∧ (searching collateralSearch).overlapWith 0 [12] = none ∧ failing.failure = some .tooLarge
      ∧ ((searching collateralSearch).setContext 3 (aContext .planned)).overlapWith 0 [12] = some 3
      ∧ (live.context 0).state ≠ .searching ∧ ((searching collateralSearch).context 0).searchNumber ≠ 65535 :=
  ⟨finds, by unfold Table.wf; decide, by decide⟩

/-- A call that the incident of section 6.13 takes: call 1002. -/
def call1002 : List Byte := callBody 1002 1 (1202 * 4096 + 805) 1 12

/-- Forty-eight open incidents of another place, each at a call. -/
def crowd : List Incident := (List.range 48).map fun n => { anIncident n (n + 1) with key := 0 }

theorem witness_CallsAreTaken :
    fits [4, 1, 3, 1, 2] [1002, 1, 1202 * 4096 + 805, 1, 12] ∧ live.Takes ⟨0x20, 1, call1002⟩ live
      ∧ (inMode .configure live).crl.mode = .configure ∧ (pendingChange live).crl.pendingConfigure = true
      ∧ live.crl.mode ≠ .configure ∧ live.crl.pendingConfigure = false
      ∧ (∀ kind ∈ [0, 6, 255], kind = 0 ∨ 5 < kind) ∧ live.ms.segments.get 383 = none
      ∧ (live.ms.segments.get 12).isSome = true
      -- a duplicate, and a new reference
      ∧ (∃ i ∈ [anIncident 0 1], ∃ c ∈ i.calls, c.reference = .ofNat 32 1001)
      ∧ (∀ i ∈ [anIncident 0 1], ∀ c ∈ i.calls, c.reference ≠ .ofNat 32 1002)
      -- a NO_SUPPLY call on a segment off supply, and one in service
      ∧ (outage.ou.services.get 12).map (fun x => (x.state, x.outage)) = some (.restoring, some 0)
      ∧ (live.ou.services.get 12).map (·.state) = some .inService
      -- an attachment
      ∧ (([anIncident 0 1].map (·.serial)).Nodup) ∧ (anIncident 0 1).cls = .leak
      ∧ ((1202 * 4096 + 805) / 4096 / 2 ^ 2, (1202 * 4096 + 805) % 4096 / 2 ^ 2)
          = ((anIncident 0 1).key.toNat / 4096 / 2 ^ 2, (anIncident 0 1).key.toNat % 4096 / 2 ^ 2)
      ∧ (anIncident 0 1).segment = some 12 ∧ (anIncident 0 1).calls.length < 16
      -- a full match, linked by the incident that is opened
      ∧ 16 ≤ ({ anIncident 0 1 with calls := .replicate 16 ⟨1, .escape, 0, none, 0⟩ } : Incident).calls.length
      -- a full table, and a free slot
      ∧ (∀ n, n < 48 → ∃ i ∈ crowd, i.slot = n) ∧ (∀ i ∈ crowd, i.key.toNat / 4096 / 2 ^ 2 ≠ 1202 / 2 ^ 2)
      ∧ crowd.dropLast.length ≤ 48 ∧ (∀ i ∈ crowd.dropLast, i.slot ≠ 47) ∧ (∀ n, n < 47 → ∃ i ∈ crowd.dropLast, i.slot = n)
      ∧ (crowd.map (·.serial)).Nodup ∧ (live.channel 47).running = false :=
  ⟨by simp [fits], takes, by decide⟩

/-- The part with the last incident of the table. -/
def lastIncident : State := withIncidents [anIncident 47 65535] live

theorem witness_IncidentRequestsAreTaken :
    (∀ n ∈ [0, 1, 65535], lastIncident.Takes ⟨0x21, 1, joinFields [2] [n]⟩ lastIncident
        ∧ lastIncident.Takes ⟨0x22, 1, joinFields [2] [n]⟩ lastIncident ∧ lastIncident.Takes ⟨0x23, 1, joinFields [2] [n]⟩ lastIncident
        ∧ ∀ v ∈ [0, 1, 4, 5], lastIncident.Takes ⟨0x24, 1, joinFields [2, 1] [n, v]⟩ lastIncident)
      ∧ lastIncident.incident 1 = none ∧ lastIncident.incident 65535 = some (anIncident 47 65535)
      ∧ (anIncident 47 65535).state = .opened ∧ (anIncident 47 65535).context = none
      ∧ ({ anIncident 0 1 with state := .madeSafe, context := some 7 } : Incident).state ≠ .opened
      ∧ ({ anIncident 0 1 with state := .madeSafe, context := some 7 } : Incident).context ≠ none
      ∧ lastIncident.it.incidents = [] ++ anIncident 47 65535 :: []
      ∧ (([anIncident 47 65535].map (·.serial)).Nodup)
      ∧ (4, (none : Option Grade)) ∈ [(1, some Grade.p1), (2, some .p2), (3, some .p3), (4, none)] :=
  ⟨fun _ _ => ⟨takes, takes, takes, fun _ _ => takes⟩, by decide⟩

/-- The part with the deadline of slot 47 due. -/
def overdue : State := (withIncidents [anIncident 47 1] live).withTb { live.tb with due := [47] }

theorem witness_DeadlinesEscalate :
    (47 : Fin 48).val ∉ live.tb.due ∧ overdue.crl.held = false ∧ (47 : Fin 48).val ∈ overdue.tb.due
      ∧ (∀ i ∈ (withIncidents [anIncident 0 1] overdue).it.incidents, i.slot ≠ (47 : Fin 48).val)
      ∧ overdue.it.incidents = [] ++ anIncident 47 1 :: [] ∧ (anIncident 47 1).slot = (47 : Fin 48).val
      ∧ ((([] : List Incident) ++ anIncident 47 1 :: []).map (·.serial)).Nodup
      ∧ (overdue.channel 47).running = false ∧ ((overdue.startChannel 47 6000 .periodic true).channel 47).running = true := by decide

/-- The body of a PLAN for seeds 12 and 13, and of an EXTEND that bars valve 6 and adds seed 13. -/
def planBody : List Byte := joinFields ([2, 1] ++ List.replicate [12, 13].length 2 ++ [1]) ([0, [12, 13].length] ++ [12, 13] ++ [1])
def extendBody : List Byte :=
  joinFields ([1, 1] ++ List.replicate [6].length 2 ++ [1] ++ List.replicate [13].length 2)
    ([0, [6].length] ++ [6] ++ [[13].length] ++ [13])

theorem witness_ContextsArePlanned :
    (live.Takes ⟨0x30, 1, planBody⟩ live ∧ (planned .confirmed).Takes ⟨0x32, 1, extendBody⟩ (planned .confirmed)
        ∧ ∀ c ∈ [0, 7, 8, 255], (planned .planned).Takes ⟨0x35, 1, joinFields [1] [c]⟩ (planned .planned))
      ∧ (live.it.incidents.map (·.serial)).Nodup ∧ live.crl.mode ≠ .configure ∧ live.crl.pendingConfigure = false
      ∧ (∀ g ∈ [12, 13], live.ms.segments.get g ≠ none) ∧ ([12, 13] : List Nat).Nodup
      ∧ (¬∃ c ∈ List.range 8, ∃ g ∈ [12, 13], g ∈ (live.context c).zone) ∧ (live.context 0).state = .free
      ∧ (∃ c ∈ List.range 8, ∃ g ∈ [12, 13], g ∈ ((planned .planned).context c).zone)
      ∧ ((planned .planned).context 0).state ≠ .free ∧ ((planned .planned).context 1).state = .free
      ∧ live.me.state = .idle ∧ live.me.pendingTrace = false ∧ live.me.queue = [] ∧ (tracing false false).me.state ≠ .idle
      -- CANCEL
      ∧ ((planned .planned).context 0).state = .planned ∧ ((planned .planned).context 0).interiorClosed = []
      ∧ (∀ e ∈ ((planned .planned).context 0).boundary, e.byContext = false)
      ∧ (∀ k ∈ List.range 12, ((planned .planned).slot k).map (·.origin) ≠ some (.context 0))
      -- EXTEND
      ∧ (planned .confirmed).ms.valves.get 6 ≠ none ∧ ((planned .confirmed).context 0).state = .confirmed
      ∧ ([6].foldl appendNew ((planned .confirmed).context 0).barred).length ≤ 16 :=
  ⟨⟨takes, takes, fun _ _ => takes⟩, by decide⟩

/-- A CONFIRMED context with OPERATOR_CONFIRMED set, and an EXTEND of it waiting. -/
def confirmed : State :=
  (live.setContext 7 { aContext .confirmed with operatorConfirmed := true }).withPending [.extend 1 [7, 0, 1, 0, 13]]

theorem witness_ConfirmTakesAHoldingContext :
    (∀ c ∈ [0, 7, 8, 255], (planned .holding).Takes ⟨0x33, 1, joinFields [1] [c]⟩ (planned .holding))
      ∧ (∃ t, step confirmed = .next t ∧ (t.context 7).state ≠ .confirmed)
      ∧ ((planned .holding).context 0).state = .holding ∧ ((planned .holding).context 7).state ≠ .holding
      ∧ (planned .holding).crl.mode ≠ .configure ∧ (planned .holding).crl.pendingConfigure = false
      ∧ (inMode .configure live).crl.mode = .configure ∧ (confirmed.context 7).state = .confirmed :=
  ⟨fun _ _ => takes, ⟨_, rfl, by decide⟩, by decide⟩

/-- Context 7 in RELEASING, with valve 7 HELD and valve 8 ordered OPEN. -/
def reopening : State :=
  live.setContext 7 { aContext .releasing with reopen := [⟨7, none, .held, none⟩, ⟨8, some .remote, .ordered, none⟩] }

/-- A REMOTE valve in CLOSED, at an authority. -/
def shut (a : Authority) : ValveLive := ⟨.closed, .closed, some a, false, false, false, none⟩

/-- R84: the slot that ABORT frees goes to the waiting entry that passes; the one before it, whose valve is CLOSED, ends
DONE_ALREADY. -/
theorem test_freed_slot_is_offered :
    let s := withOrder 11 (anOrder .waiting 7 .close .host) (live.setValve 5 (shut .remote))
    let t := after (s.setWaiting [⟨0, 5, .close, 0⟩, ⟨0, 8, .close, 0⟩]) [.abort 1 [11]]
    (t.slot 11, t.vou.waiting, (t.vou.valves.get 8).map (·.slot), noticed t .operations)
      = (some { anOrder .waiting 8 .close (.context 0) with priority := 3 }, [], some (some 11),
        [.orderOutcome (some 11) 7 .close .host .aborted 0, .orderOutcome none 5 .close (.context 0) .doneAlready 0]) := by
  decide

/-- R152: the outcome of the CLOSE order of a HELD entry orders its valve OPEN; that of the OPEN order then ends the entry. -/
theorem test_held_entry_is_routed_again :
    let s := (reopening.setValve 7 (shut .remote)).deliverOutcome 7 7 .close .travelTimeout
    ((s.context 7).reopen, (s.slot 0).map (fun o => (o.valve, o.action)), ((s.deliverOutcome 7 7 .opening .done).context 7).reopen)
      = ([⟨7, some .remote, .ordered, none⟩, ⟨8, some .remote, .ordered, none⟩], some (7, .opening),
        [⟨7, some .remote, .opened, none⟩, ⟨8, some .remote, .ordered, none⟩]) := by decide

/-- What the end of an order and the outcomes of a release meet: a slot with an order, the cases of an offer, and a HELD
entry at each row of the table of R151. -/
theorem witness_ContextOrdersAreAnswered_release :
    (asking.slot 0 = some (anOrder .waiting 7 .close (.context 0)) ∧ live.slot 11 = none ∧ live.vou.waiting = []
        ∧ (live.setWaiting [⟨0, 5, .close, 0⟩]).vou.waiting = ⟨0, 5, .close, 0⟩ :: []
        ∧ ((live.setWaiting [⟨0, 5, .close, 0⟩]).setWaiting []).requestCheck 5 .close = none
        ∧ ((live.setWaiting [⟨0, 6, .close, 0⟩]).setWaiting []).requestCheck 6 .close = some (.refused .state))
      ∧ ((reopening.context 7).state = .releasing ∧ (7 : Nat) < 8
        ∧ (∃ e ∈ (reopening.context 7).reopen, e.valve = 7 ∧ e.status = .held)
        ∧ (∀ e ∈ (reopening.context 7).reopen, e.valve = 8 → e.status ≠ .held)
        ∧ 7 ∈ (reopening.context 7).boundary.map (·.valve) ∧ 8 ∉ (reopening.context 7).boundary.map (·.valve)
        ∧ (∀ e ∈ ((reopening.deliverOutcome 7 8 .opening .done).deliverOutcome 7 8 .opening (.refused .link) |>.context 7).reopen,
            e.valve = 8 → e.status = .opened))
      ∧ reopening.ms.valves.get 7 = some (lineValve 12 13 2)
      ∧ reopening.vou.valves.get 7 = some ⟨.opened, .opened, some .remote, false, false, false, none⟩
      ∧ (reopening.setValve 7 (shut .crew)).vou.valves.get 7 = some (shut .crew)
      ∧ (reopening.setValve 7 (shut .remote)).vou.valves.get 7 = some (shut .remote)
      ∧ OrderOutcome.travelTimeout ∈ [OrderOutcome.done, .travelTimeout, .interruptedLocal, .abortedLate, .abortedMoving]
      ∧ OrderOutcome.travelTimeout ∉ [OrderOutcome.abortedLate, .abortedMoving, .aborted, .abortedHold, .abortedMode,
          .refused .mode, .refused .hold] := by decide

theorem witness_ContextOrdersAreAnswered :
    (Action.close = .close ∨ Action.close = .opening) ∧ ((planned .executing).context 0).state ≠ .free
      ∧ ((planned .executing).context 0).state ≠ .releasing ∧ ((((planned .executing).context 0).boundary.map (·.valve)).Nodup)
      ∧ OrderOutcome.done ≠ .doneAlready ∧ OrderOutcome.done ≠ .recallUnanswered
      ∧ OrderOutcome.done ∈ [OrderOutcome.done, .travelTimeout, .interruptedLocal, .abortedLate, .abortedMoving]
      ∧ OrderOutcome.refused .hold ∈ [OrderOutcome.abortedLate, .abortedMoving, .aborted, .abortedHold, .abortedMode, .refused .mode,
          .refused .hold]
      ∧ (∃ e ∈ ((planned .executing).context 0).boundary, e.valve = 7)
      ∧ 8 ∉ ((planned .executing).context 0).boundary.map (·.valve) ∧ ((planned .planned).context 0).state = .planned := by decide

/-- A context in RELEASING with valve 7 left FAILED. -/
def releasing : State := live.setContext 7 { aContext .releasing with reopen := [⟨7, none, .failed, none⟩] }

theorem witness_ExecuteAndReleaseAreTaken :
    (∀ c ∈ [0, 7, 8, 255], (planned .planned).Takes ⟨0x31, 1, joinFields [1] [c]⟩ (planned .planned)
        ∧ (planned .confirmed).Takes ⟨0x34, 1, joinFields [1] [c]⟩ (planned .confirmed)
        ∧ releasing.Takes ⟨0x34, 1, joinFields [1] [c]⟩ releasing)
      ∧ ((((planned .planned).context 0).boundary.map (·.valve)).Nodup) ∧ ((((planned .planned).context 0).reopen.map (·.valve)).Nodup)
      ∧ (planned .planned).crl.mode = .supervise ∧ (planned .planned).crl.pendingConfigure = false
      ∧ (planned .planned).vou.hold = false ∧ ((planned .planned).context 0).state = .planned
      ∧ (planned .planned).requestCheck 7 .close = none ∧ (planned .planned).requestCheck 6 .close = some (.refused .state)
      ∧ ((planned .confirmed).context 0).state = .confirmed ∧ (releasing.context 7).state = .releasing
      ∧ releasing.closingOrder 7 7 = false ∧ (withOrder 0 (anOrder .moving 7 .close (.context 7)) releasing).closingOrder 7 7 = true
      ∧ releasing.ms.valves.get 7 = some (lineValve 12 13 2)
      ∧ releasing.vou.valves.get 7 = some ⟨.opened, .opened, some .remote, false, false, false, none⟩
      ∧ (releasing.setValve 7 ⟨.closed, .closed, some .remote, false, false, false, none⟩).vou.valves.get 7
          = some ⟨.closed, .closed, some .remote, false, false, false, none⟩
      ∧ loaded.crl.mode = .configure ∧ ((planned .closedWait).context 0).state = .closedWait :=
  ⟨fun _ _ => ⟨takes, takes, takes⟩, by decide⟩

/-- Context 0 in a state, with valve 6 left to the crew and valve 7 in a status, both to be reopened. -/
def listing (state : ContextState) (status : EntryStatus) : State :=
  live.setContext 0 { aContext state with
    boundary := [⟨6, .crew, .openTodo, false⟩, ⟨7, .remote, status, false⟩]
    reopen := [⟨6, none, .crewTodo, none⟩, ⟨7, none, .failed, none⟩] }

/-- The live fields of a REMOTE valve at a position. -/
def valveAt (p : Position) : ValveLive := ⟨p, .opened, some .remote, false, false, false, none⟩

/-- The part with every order slot taken, by orders of another valve. -/
def busy (s : State) : State := (List.range 12).foldl (fun s k => s.setSlot k (some (anOrder .sent 8 .close .host))) s

theorem witness_ContextsFollowTheirValves :
    -- the change, and a change of none of the five fields
    (live.vou.valves.get 7 = some (valveAt .opened) ∧ valveAt .opened ≠ valveAt .closed
        ∧ ({ valveAt .opened with slot := some 0 } : ValveLive).position = (valveAt .opened).position)
      -- the contexts: one that lists the valve in each state, and a FREE one
      ∧ (∀ state ∈ [ContextState.searching, .planned, .failed, .executing, .closedWait, .holding, .confirmed, .breached, .releasing],
          ((listing state .closed).context 0).state = state ∧ (listing state .closed).ms.valves.get 7 = some (lineValve 12 13 2)
            ∧ (((listing state .closed).context 0).boundary.map (·.valve)).Nodup
            ∧ (∃ e ∈ ((listing state .closed).context 0).boundary, e.valve = 7)
            ∧ 8 ∉ ((listing state .closed).context 0).boundary.map (·.valve))
      ∧ (live.context 0).state = .free
      -- the moves
      ∧ ((valveAt .opened).position ≠ .closed ∧ (valveAt .closed).position ≠ .opened ∧ (valveAt .closed).position ≠ .travel
        ∧ (valveAt .opened).position ≠ .unknown)
      -- EXECUTING, asked again: a free slot, the waiting list, neither, done already, refused, and no authority to ask
      ∧ ((listing .executing .closed).liveOrder 7 = none ∧ (listing .executing .closed).requestCheck 7 .close = none
        ∧ (List.range 12).find? (fun k => ((listing .executing .closed).slot k).isNone) ≠ none
        ∧ (busy (listing .executing .closed)).requestCheck 7 .close = none ∧ (busy (listing .executing .closed)).liveOrder 7 = none
        ∧ (List.range 12).find? (fun k => ((busy (listing .executing .closed)).slot k).isNone) = none
        ∧ (busy (listing .executing .closed)).vou.waiting.length < 192
        ∧ 192 ≤ ((listing .executing .closed).setWaiting (.replicate 192 ⟨1, 8, .close, 0⟩)).vou.waiting.length
        ∧ ((listing .executing .closed).setValve 7 (valveAt .closed)).requestCheck 7 .close = some .doneAlready
        ∧ ((listing .executing .closed).setValve 7 { valveAt .opened with inhibit := true }).requestCheck 7 .close
            = some (.refused .inhibited)
        ∧ (inMode .observe (listing .executing .closed)).crl.mode ≠ .supervise
        ∧ (withOrder 0 (anOrder .moving 7 .opening .host) (listing .executing .closed)).liveOrder 7 ≠ none)
      -- the plan of a context in PLANNED: usability as before, and changed
      ∧ ((listing .planned .closed).me.state = .idle ∧ (listing .planned .closed).me.pendingTrace = false
        ∧ (listing .planned .closed).me.queue = [])
      -- RELEASING: an order of the context is live for the valve, or none
      ∧ (listing .releasing .closed).contextOrder 0 7 = none
      ∧ (withOrder 0 (anOrder .moving 7 .opening (.context 0)) (listing .releasing .closed)).contextOrder 0 7 ≠ none
      ∧ 7 ∈ ((listing .releasing .closed).context 0).reopen.map (·.valve) := by decide

/-- Context 7 in CLOSED_WAIT with a decay set, its channel's expiry due. -/
def decaying (l : List DecayPoint) : State :=
  (live.setContext 7 { aContext .closedWait with decaySet := l }).withTb { live.tb with due := [67] }

theorem witness_ContextsWaitForTheDecay :
    (7 : Nat) < 8 ∧ (aContext .executing).zone ≠ [] ∧ ((decaying [⟨30, 100000, false⟩]).context 7).state = .closedWait
      ∧ 30 ∈ ((decaying [⟨30, 100000, false⟩]).context 7).decaySet.map (·.point)
      ∧ 31 ∉ ((decaying [⟨30, 100000, false⟩]).context 7).decaySet.map (·.point)
      ∧ 60 + (7 : Fin 8).val ∉ live.tb.due ∧ (decaying []).crl.held = false ∧ 60 + (7 : Fin 8).val ∈ (decaying []).tb.due
      ∧ ((decaying []).context 7).decaySet = [] ∧ (∃ d ∈ ((decaying [⟨30, 100000, false⟩]).context 7).decaySet, d.decayed = false)
      ∧ (∀ d ∈ ((decaying [⟨30, 100000, true⟩]).context 7).decaySet, d.decayed = true)
      ∧ ((decaying [⟨30, 100000, true⟩]).context 7).decaySet ≠ [] ∧ (live.context 7).state ≠ .closedWait := by decide

theorem witness_OutageRequestsAreTaken :
    (∀ g ∈ [12, 13, 383, 384], outage.Takes ⟨0x50, 1, joinFields [2] [g]⟩ outage)
      ∧ (∀ n ∈ [0, 15, 16, 255], outage.Takes ⟨0x52, 1, joinFields [1] [n]⟩ outage)
      ∧ loaded.crl.mode = .configure ∧ outage.crl.mode ≠ .configure ∧ outage.ou.services.get 383 = none
      ∧ (outage.ou.services.get 13).map (·.state) = some .inService
      ∧ outage.ou.services.get 12 = some ⟨.restoring, some .isolation, some 0, true, .noData, none⟩
      ∧ outage.ms.segments.get 12 = some ⟨.lp, 640, 1, 0⟩ ∧ (outage.outage 0).state = .active ∧ (outage.outage 15).state = .free
      ∧ (outage.outage 0).segments.filter (fun e => e.segment != 12) = []
      ∧ 68 + (0 : Fin 16).val ∉ outage.tb.due
      ∧ 68 + (0 : Fin 16).val ∈ (outage.withTb { outage.tb with due := [68] }).tb.due
      ∧ (outage.withTb { outage.tb with due := [68] }).crl.held = false :=
  ⟨fun _ _ => takes, fun _ _ => takes, by decide⟩

theorem outage_sound : outage.OutagesSound := by
  have records : ∀ n, n < 16 → outage.outage n = (if n = 0 then outage.outage 0 else .free) := by decide
  have segments : ∀ n g, n < 16 → (g ∈ (outage.outage n).segments.map (·.segment) ↔ n = 0 ∧ g = 12) := by
    intro n g h
    rw [records n h]
    split
    · rw [show (outage.outage 0).segments = [⟨12, .isolation, 1000⟩] from by decide]; simp_all
    · simp_all [OutageRecord.free]
  refine ⟨?_, by decide, ?_, ?_, ?_, ?_⟩
  · intro n h
    rw [records n h]
    split
    · exact ⟨rfl, rfl, rfl, by decide, by decide⟩
    · exact ⟨rfl, rfl, rfl, by decide, fun _ => rfl⟩
  · intro n
    rw [show outage.ou.active = [0] from by decide]
    have : ∀ n, n < 16 → ((outage.outage n).state = .active ↔ n = 0) := by decide
    constructor
    · intro h; simp only [List.mem_singleton] at h; subst h; decide
    · rintro ⟨h, e⟩; simpa using (this n h).mp e
  · intro g x h
    have hm := rowGet_some _ _ _ h
    rw [show outage.ou.services.rows = [(10, ⟨.inService, none, none, true, .noData, none⟩),
      (11, ⟨.inService, none, none, true, .noData, none⟩), (12, ⟨.restoring, some .isolation, some 0, true, .noData, none⟩),
      (13, ⟨.inService, none, none, true, .noData, none⟩)] from by decide] at hm
    simp only [List.mem_cons, Prod.mk.injEq, List.not_mem_nil, or_false] at hm
    refine ⟨?_, fun n => ?_⟩
    · rcases hm with ⟨-, rfl⟩ | ⟨-, rfl⟩ | ⟨-, rfl⟩ | ⟨-, rfl⟩ <;> decide
    · have e : (n < 16 ∧ g ∈ (outage.outage n).segments.map (·.segment)) ↔ n = 0 ∧ g = 12 :=
        ⟨fun h => (segments n g h.1).mp h.2, fun h => ⟨by omega, (segments n g (by omega)).mpr h⟩⟩
      rw [e]
      clear e segments records h
      rcases hm with ⟨rfl, rfl⟩ | ⟨rfl, rfl⟩ | ⟨rfl, rfl⟩ | ⟨rfl, rfl⟩ <;> simp [eq_comm]
  · intro n g h hg
    obtain ⟨rfl, rfl⟩ := (segments n g h).mp hg
    decide
  · intro h; exact absurd h (by decide)

theorem witness_TraceCompletes :
    (tracing true false).Finds (tracing true false) ∧ (∀ passing rerun, live.me.state ≠ .tracing passing rerun)
      ∧ ((tracing true false).ms.segments.wf 384 ∧ (tracing true false).vou.valves.wf 512)
      ∧ (tracing true false).me.state = .tracing [0, 5, 8, 511] true ∧ (tracing false true).me.pendingTrace = true
      ∧ (tracing false false).me.state = .tracing [0, 5, 8, 511] false ∧ (tracing false false).me.pendingTrace = false
      ∧ (tracing false false).me.queue = []
      ∧ ((tracing false false).withMe { (tracing false false).me with queue := [7] }).me.queue = 7 :: []
      ∧ (tracing false false).ms.segments.get 383 = none ∧ ((tracing false false).ms.segments.get 13).isSome = true := by
  refine ⟨finds, ?_, by unfold Table.wf; decide, by decide⟩
  rw [show live.me.state = .idle from by decide]; simp

/-- Segment 12 OFF_SUPPLY in place of RESTORING. -/
def offSupply : Service := ⟨.offSupply, some .isolation, some 0, true, .noData, none⟩

theorem offSupply_sound : (outage.setService 12 offSupply).OutagesSound := by
  obtain ⟨h1, h2, h3, h4, h5, h6⟩ := outage_sound
  have get (g : Nat) : (outage.setService 12 offSupply).ou.services.get g
      = if 12 = g then some offSupply else outage.ou.services.get g :=
    Table.get_set _ 384 12 g _ (by unfold Table.wf; decide)
  refine ⟨h1, h2, h3, fun g x h => ?_, fun n g hn hg => ?_, fun h => absurd h (by decide)⟩
  · rw [get] at h
    split at h
    · next e => subst e; cases h; exact ⟨by decide, (h4 12 ⟨.restoring, some .isolation, some 0, true, .noData, none⟩ (by decide)).2⟩
    · exact h4 g x h
  · rw [get]; split
    · rfl
    · exact h5 n g hn hg

/-- What the inputs of a segment meet: sound records, a segment of each standing, and the candidates of two joins, segment
13 with its neighbour's record and segment 10 with none. -/
theorem witness_TraceCompletes_inputs :
    outage.OutagesSound ∧ (outage.setService 12 offSupply).OutagesSound
      ∧ (outage.ou.services.wf 384 ∧ (outage.setService 12 offSupply).ou.services.wf 384)
      ∧ outage.ms.segments.get 13 = some ⟨.lp, 410, 0, 0⟩
      ∧ outage.ou.services.get 13 = some ⟨.inService, none, none, true, .noData, none⟩
      ∧ outage.ou.services.get 12 = some ⟨.restoring, some .isolation, some 0, true, .noData, none⟩
      ∧ (outage.setService 12 offSupply).ou.services.get 12 = some offSupply
      ∧ (∀ m, m ∈ [0] ↔ outage.JoinCandidate 13 none m) ∧ (∀ m, m ∈ [] ↔ outage.JoinCandidate 10 none m)
      ∧ [0].Sublist outage.ou.active ∧ (outage.outage 15).state = .free := by
  have one (g m : Nat) : outage.JoinCandidate g none m ↔ m = 0 ∧ (outage.neighbours g).contains 12 = true := by
    have active : outage.ou.active = [0] := by decide
    have listed : (outage.outage 0).segments = [⟨12, .isolation, 1000⟩] := by decide
    unfold State.JoinCandidate
    rw [active, List.mem_singleton]
    refine and_congr_right fun e => ?_
    subst e
    rw [listed]
    simp only [List.mem_singleton, exists_eq_left, ne_eq, not_true_eq_false, false_and, or_false, List.contains_iff_mem,
      State.neighbours, List.mem_filterMap]
    constructor
    · rintro ⟨v, r, hv, hr, h⟩; exact ⟨v, hv, by rw [hr]; simp [h]⟩
    · rintro ⟨v, hv, h⟩
      split at h
      · cases h
      · next r hr =>
        refine ⟨v, r, hv, hr, ?_⟩
        split at h
        · cases h
        · next o ho => rw [ho]; cases h; rfl
  refine ⟨outage_sound, offSupply_sound, by unfold Table.wf; decide, by decide, by decide, by decide, by decide, fun m => ?_,
    fun m => ?_, by decide, by decide⟩
  · rw [one, show (outage.neighbours 13).contains 12 = true from by decide]; simp
  · rw [one, show (outage.neighbours 10).contains 12 = false from by decide]; simp

/-- A fed input takes segment 13 off supply into its neighbour's record, as UNFED (R157, R162, R166). -/
theorem test_neighbour_joins_the_record :
    ((outage.deliverFed 13 false).ou.services.get 13).map (fun x => (x.state, x.cause, x.outage))
        = some (.offSupply, some .unfed, some 0)
      ∧ ((outage.deliverFed 13 false).outage 0).offCount = 1050 := by decide

theorem witness_OutagesBalance :
    (outage.withPending [.relightDone 1 [0, 12]]).OutagesSound ∧ ∃ t, step (outage.withPending [.relightDone 1 [0, 12]]) = .next t :=
  ⟨outage_sound, _, rfl⟩

theorem witness_LiveRecordsAreRead :
    outage.Takes ⟨0x48, 1, []⟩ outage ∧ (∀ n ∈ [0, 1, 65535], outage.Takes ⟨0x25, 1, joinFields [2] [n]⟩ outage)
      ∧ (∀ c ∈ [0, 7, 8, 255], outage.Takes ⟨0x36, 1, joinFields [1] [c]⟩ outage)
      ∧ (∀ n ∈ [0, 15, 16, 255], outage.Takes ⟨0x51, 1, joinFields [1] [n]⟩ outage)
      ∧ ∀ st ∈ [0, 63, 64, 255], ∀ f ∈ [0, 1, 2], outage.Takes ⟨0x1C, 1, joinFields [1, 1] [st, f]⟩ outage :=
  ⟨takes, fun _ _ => takes, fun _ _ => takes, fun _ _ => takes, fun _ _ _ _ => takes⟩

end Sys2Proof.Tests
end

/-! ## Obligation O23: LOAD requests and MODEL_CLEAR (R2, R3, R8 to R11) -/

namespace Sys2Proof.Machine

/-! ### A taken request, by its fields and by its length -/

/-- A body splits into one number for each width. -/
theorem length_of_splitFields {ws ns : List Nat} {body : List Byte} (h : splitFields ws body = some ns) :
    ns.length = ws.length := by
  induction ws generalizing body ns with
  | nil => cases body <;> simp_all [splitFields]
  | cons w ws ih =>
    simp only [splitFields] at h
    split at h
    · cases h
    · obtain ⟨ms, hms, rfl⟩ := Option.map_eq_some_iff.1 h
      simp [ih hms]

section
variable {c : Instr} {s s₀ : State} {kind tag : Byte} {body : List Byte} {ws ns : List Nat}
  (owner : List Nat → State → Answered)

/-- A taken request of the catalogue whose fields hold some numbers gets its owner's answer to those numbers (R193). -/
theorem exec_answers (hc : exec c s = .next (s.request ⟨kind, tag, joinFields ws ns⟩ owner))
    (ht : s.Takes ⟨kind, tag, joinFields ws ns⟩ s₀) (hk : kind < 0x80#8)
    (hw : requestWidths kind (joinFields ws ns) = some ws) (hf : fits ws ns)
    {t : State} {code : ResultCode} {contents : ReplyBody} (hr : owner ns s₀ = (t, code, contents)) :
    exec c s = .next (t.answered kind tag code contents) := by
  rw [hc, State.request_answers ht owner hk hw (splitFields_joinFields ws ns hf), hr]

/-- A taken request of the catalogue with a body of its kind's length is refused where its owner refuses it whatever its
fields hold (R193). -/
theorem exec_refused (hc : exec c s = .next (s.request ⟨kind, tag, body⟩ owner)) (ht : s.Takes ⟨kind, tag, body⟩ s₀)
    (hk : kind < 0x80#8) (hw : requestWidths kind body = some ws) (hl : body.length = ws.sum) {code : ResultCode}
    (hr : ∀ ns : List Nat, ns.length = ws.length → owner ns s₀ = refuse s₀ code) :
    exec c s = .next (s₀.answered kind tag code .empty) := by
  obtain ⟨ns, hs⟩ := Option.isSome_iff_exists.1 ((splitFields_isSome ws body).2 hl)
  rw [hc, State.request_answers ht owner hk hw hs, hr ns (length_of_splitFields hs)]
  rfl

/-- A taken request whose owner loads a model where a check holds, and refuses it with RANGE elsewhere (R2). -/
theorem exec_loads (hc : exec c s = .next (s.request ⟨kind, tag, joinFields ws ns⟩ owner))
    (ht : s.Takes ⟨kind, tag, joinFields ws ns⟩ s₀) (hk : kind < 0x80#8)
    (hw : requestWidths kind (joinFields ws ns) = some ws) (hf : fits ws ns) {p : Prop} [Decidable p] {m : ModelStore}
    (hr : owner ns s₀ = if p then s₀.loaded m else refuse s₀ .range) :
    exec c s = .next (if p then (s₀.withMs { m with derived := none }).answered kind tag .ok .empty
      else s₀.answered kind tag .range .empty) := by
  by_cases hp : p
  · rw [if_pos hp] at hr ⊢
    exact exec_answers owner hc ht hk hw hf hr
  · rw [if_neg hp] at hr ⊢
    exact exec_answers owner hc ht hk hw hf hr

end

/-! ### What a load does (R2) -/

section
variable {s : State} {α : Type} {record : Option α} {store : α → ModelStore}

/-- Outside CONFIGURE every load is refused with MODE. -/
theorem State.load_service (h : s.crl.mode ≠ .configure) : s.load record store = refuse s .mode := by
  simp [State.load, State.inConfigure, h]

/-- In CONFIGURE a load without an allowed record is refused with RANGE. -/
theorem State.load_none (h : s.crl.mode = .configure) : s.load none store = refuse s .range := by
  simp [State.load, State.inConfigure, h]

/-- In CONFIGURE an allowed record is stored. -/
theorem State.load_some (h : s.crl.mode = .configure) (a : α) : s.load (some a) store = s.loaded (store a) := by
  simp [State.load, State.inConfigure, h]

/-- In CONFIGURE a load stores its record where the record's check holds, and is refused with RANGE elsewhere. -/
theorem State.load_ite (h : s.crl.mode = .configure) (p : Prop) [Decidable p] :
    s.load (if p then record else none) store = if p then s.load record store else refuse s .range := by
  split
  · rfl
  · exact State.load_none h

/-- Outside CONFIGURE MODEL_CLEAR is refused with MODE (R11). -/
theorem State.modelClear_service (h : s.crl.mode ≠ .configure) : s.modelClear = refuse s .mode := by
  simp [State.modelClear, State.inConfigure, h]

/-- In CONFIGURE MODEL_CLEAR empties the store (R11). -/
theorem State.modelClear_configure (h : s.crl.mode = .configure) : s.modelClear = (s.withMs s.ms.clear, .ok, .empty) := by
  simp [State.modelClear, State.inConfigure, h]

end

/-! ### The requests outside CONFIGURE: each reaches its load, whatever its fields hold -/

section
variable {s : State} (h : s.crl.mode ≠ .configure) (ns : List Nat)
include h

theorem loadSegmentFields_service (hl : ns.length = 5) : loadSegmentFields ns s = refuse s .mode :=
  match ns, hl with
  | [_, _, _, _, _], _ => State.load_service h

theorem loadValveFields_service (hl : ns.length = 12) : loadValveFields ns s = refuse s .mode :=
  match ns, hl with
  | [_, _, _, _, _, _, _, _, _, _, _, _], _ => State.load_service h

theorem loadPointFields_service (hl : ns.length = 16) : loadPointFields ns s = refuse s .mode :=
  match ns, hl with
  | [_, _, _, _, _, _, _, _, _, _, _, _, _, _, _, _], _ => State.load_service h

theorem loadStationFields_service (hl : ns.length = 3) : loadStationFields ns s = refuse s .mode :=
  match ns, hl with
  | [_, _, _], _ => State.load_service h

theorem loadLineFields_service (hl : ns.length = 5) : loadLineFields ns s = refuse s .mode :=
  match ns, hl with
  | [_, _, _, _, _], _ => State.load_service h

theorem loadTierFields_service (hl : ns.length = 4) : loadTierFields ns s = refuse s .mode :=
  match ns, hl with
  | [_, _, _, _], _ => State.load_service h

end

/-! ### The loads in CONFIGURE: the record with its checks and clamps -/

section
variable {s : State} (h : s.crl.mode = .configure)
include h

/-- LOAD_SEGMENT of no tier is refused (R3). -/
theorem State.loadSegment_no_tier {tier : Nat} (ht : tierOf tier = none) (index points critical key : Nat) :
    s.loadSegment index tier points critical key = refuse s .range := by
  rw [State.loadSegment, segmentRecord, ht, Option.map_none, ite_self, State.load_none h]

/-- LOAD_SEGMENT of a tier stores its record at an index of the segments (R3). -/
theorem State.loadSegment_tier {tier : Nat} {t : Tier} (ht : tierOf tier = some t) (index points critical key : Nat) :
    s.loadSegment index tier points critical key
      = if index < 384 then
          s.loaded { s.ms with segments := s.ms.segments.set index ⟨t, points, critical, .ofNat 24 key⟩ }
        else refuse s .range := by
  rw [State.loadSegment, segmentRecord, ht, Option.map_some, State.load_ite h, State.load_some h]
  rfl

/-- LOAD_STATION stores a line and an address in their ranges (R8). -/
theorem State.loadStation_configure (index line address : Nat) :
    s.loadStation index line address
      = if index < 64 ∧ line < 4 ∧ 1 ≤ address ∧ address ≤ 31 then
          s.loaded { s.ms with stations := s.ms.stations.set index ⟨line, address⟩ }
        else refuse s .range := by
  rw [State.loadStation, State.load_ite h, State.load_some h]
  rfl

/-- LOAD_LINE stores a record of a legal baud rate with its clamps (R9). -/
theorem State.loadLine_configure (line : Nat) (r : LineRec) :
    s.loadLine line r
      = if line < 4 ∧ (r.baud = 38400 ∨ r.baud = 115200) then s.loaded (s.ms.setLine line r.clamped)
        else refuse s .range := by
  rw [State.loadLine, State.load_ite h, State.load_some h]
  simp [baudAllowed]

/-- LOAD_TIER of no tier is refused (R10). -/
theorem State.loadTier_no_tier {tier : Nat} (ht : tierOf tier = none) (drop vent time : Nat) :
    s.loadTier tier drop vent time = refuse s .range := by
  rw [State.loadTier, ht, ite_self, State.load_none h]

/-- LOAD_TIER of a tier stores two pressures in their range and a clamped time (R10). -/
theorem State.loadTier_tier {tier : Nat} {t : Tier} (ht : tierOf tier = some t) (drop vent time : Nat) :
    s.loadTier tier drop vent time
      = if drop ≤ 1048575 ∧ vent ≤ 1048575 then
          s.loaded { s.ms with tiers := s.ms.tiers.put ⟨drop, vent, clamp 10 36000 time⟩ t }
        else refuse s .range := by
  rw [State.loadTier, ht, State.load_ite h, State.load_some h]
  rfl

end

/-- Settles O23: each request reaches its load with the numbers of its fields; what the load does is said above. -/
theorem loadsWriteTheirRecord : Obligations.LoadsWriteTheirRecord := by
  unfold Obligations.LoadsWriteTheirRecord
  refine ⟨fun s s₀ tag h => ⟨?segment, ?station, ?line, ?tier, ?clear⟩, fun s s₀ tag body h => ?service⟩
  case segment =>
    intro index tier points critical key hindex htier hpoints hcritical hkey takes
    have fit : fits [2, 1, 2, 1, 3] [index, tier, points, critical, key] :=
      ⟨hindex, htier, hpoints, hcritical, hkey, trivial⟩
    cases ht : tierOf tier with
    | none =>
      exact exec_answers loadSegmentFields rfl takes (by decide) rfl fit (State.loadSegment_no_tier h ht ..)
    | some t => exact exec_loads loadSegmentFields rfl takes (by decide) rfl fit (State.loadSegment_tier h ht ..)
  case station =>
    intro index line address hindex hline haddress takes
    exact exec_loads loadStationFields rfl takes (by decide) rfl ⟨hindex, hline, haddress, trivial⟩
      (State.loadStation_configure h ..)
  case line =>
    intro line reply stale retry baud hline hreply hstale hretry hbaud takes
    exact exec_loads loadLineFields rfl takes (by decide) rfl ⟨hline, hreply, hstale, hretry, hbaud, trivial⟩
      (State.loadLine_configure h ..)
  case tier =>
    intro tier drop vent time htier hdrop hvent htime takes
    have fit : fits [1, 3, 3, 2] [tier, drop, vent, time] := ⟨htier, hdrop, hvent, htime, trivial⟩
    cases ht : tierOf tier with
    | none => exact exec_answers loadTierFields rfl takes (by decide) rfl fit (State.loadTier_no_tier h ht ..)
    | some t => exact exec_loads loadTierFields rfl takes (by decide) rfl fit (State.loadTier_tier h ht ..)
  case clear =>
    exact fun takes => exec_answers (ws := []) (ns := []) (fun _ => State.modelClear) rfl takes (by decide) rfl trivial
      (State.modelClear_configure h)
  case service =>
    exact ⟨fun takes hl => exec_refused (fun _ => State.modelClear) rfl takes (by decide) rfl hl
        fun _ _ => State.modelClear_service h,
      fun takes hl => exec_refused loadSegmentFields rfl takes (by decide) rfl hl (loadSegmentFields_service h),
      fun takes hl => exec_refused loadValveFields rfl takes (by decide) rfl hl (loadValveFields_service h),
      fun takes hl => exec_refused loadPointFields rfl takes (by decide) rfl hl (loadPointFields_service h),
      fun takes hl => exec_refused loadStationFields rfl takes (by decide) rfl hl (loadStationFields_service h),
      fun takes hl => exec_refused loadLineFields rfl takes (by decide) rfl hl (loadLineFields_service h),
      fun takes hl => exec_refused loadTierFields rfl takes (by decide) rfl hl (loadTierFields_service h)⟩

end Sys2Proof.Machine

/-! ## Obligation O28: the health of an outstation after a transaction (R28 to R31) -/

namespace Sys2Proof.Machine

/-! ### The counter and the state it gives (R28, R29) -/

theorem counterAfter_le {n : Nat} (h : n ≤ 255) (good : Bool) : counterAfter n good ≤ 255 := by
  cases good
  · exact min_le_right ..
  · exact (Nat.sub_le n 1).trans h

/-- No end of a transaction adds more than 8. -/
theorem counterAfter_le_add (n : Nat) (good : Bool) : counterAfter n good ≤ n + 8 := by
  cases good
  · exact min_le_left ..
  · exact (Nat.sub_le n 1).trans (Nat.le_add_right n 8)

section
variable {h : Health} (served : h ≠ .lost) (n : Nat)
include served

theorem Health.fromCounter_eq_lost_iff : h.fromCounter n = .lost ↔ 128 ≤ n := by
  cases h with
  | lost => exact absurd rfl served
  | healthy | degraded => simp only [Health.fromCounter]; split_ifs <;> simp_all

theorem Health.fromCounter_eq_degraded_iff :
    h.fromCounter n = .degraded ↔ n < 128 ∧ (h = .healthy ∧ 64 ≤ n ∨ h = .degraded ∧ 32 ≤ n) := by
  cases h with
  | lost => exact absurd rfl served
  | healthy | degraded => simp only [Health.fromCounter]; split_ifs <;> simp <;> omega

theorem Health.fromCounter_eq_healthy_iff :
    h.fromCounter n = .healthy ↔ h = .healthy ∧ n < 64 ∨ h = .degraded ∧ n < 32 := by
  cases h with
  | lost => exact absurd rfl served
  | healthy | degraded => simp only [Health.fromCounter]; split_ifs <;> simp <;> omega

end

/-! ### The three ways a transaction can end: judged by the counter, recovered, still LOST -/

namespace StationLive

variable {x : StationLive} {good scan : Bool}

/-- The end of a scan that makes a fourth good report in a row (R31). -/
def FourthGoodScan (x : StationLive) (good scan : Bool) : Prop := scan = true ∧ good = true ∧ 3 ≤ x.goodRun

/-- The good run of an outstation that stays LOST: only scans count (R31). -/
def lostRun (x : StationLive) (good scan : Bool) : Nat :=
  if scan then (if good then x.goodRun + 1 else 0) else x.goodRun

/-- In HEALTHY and DEGRADED the counter decides (R29), and an entry into LOST starts the good run at 0 (R30). -/
theorem afterTransaction_served (h : x.health ≠ .lost) :
    x.afterTransaction good scan
      = { x with
          health := x.health.fromCounter (counterAfter x.counter good)
          counter := counterAfter x.counter good
          goodRun := if x.health.fromCounter (counterAfter x.counter good) = .lost then 0 else x.goodRun } := by
  unfold afterTransaction
  split
  · contradiction
  · rfl

/-- The fourth good scan in a row brings a LOST outstation back to DEGRADED at 64 (R31). -/
theorem afterTransaction_recovered (h : x.health = .lost) (fourth : x.FourthGoodScan good scan) :
    x.afterTransaction good scan = { x with health := .degraded, counter := 64, goodRun := 0 } := by
  obtain ⟨rfl, rfl, run⟩ := fourth
  simp [afterTransaction, h, run]

/-- At every other end a LOST outstation stays LOST while its counter moves on (R28, R31). -/
theorem afterTransaction_lost (h : x.health = .lost) (fourth : ¬x.FourthGoodScan good scan) :
    x.afterTransaction good scan
      = { x with counter := counterAfter x.counter good, goodRun := x.lostRun good scan } := by
  cases scan with
  | false => simp [afterTransaction, h, lostRun]
  | true =>
    cases good with
    | false => simp [afterTransaction, h, lostRun]
    | true =>
      have run : ¬3 ≤ x.goodRun := fun run => fourth ⟨rfl, rfl, run⟩
      simp [afterTransaction, h, lostRun, run]

/-- A good run that misses its fourth report stays below 4. -/
theorem lostRun_lt (run : x.goodRun < 4) (fourth : ¬x.FourthGoodScan good scan) : x.lostRun good scan < 4 := by
  unfold lostRun
  split_ifs with hscan hgood
  · have : ¬3 ≤ x.goodRun := fun run => fourth ⟨hscan, hgood, run⟩
    omega
  · decide
  · exact run

/-! ### What every end of a transaction keeps -/

/-- The update of the health leaves the statistics to the counts of R35. -/
theorem afterTransaction_stats (x : StationLive) (good scan : Bool) :
    (x.afterTransaction good scan).stats = x.stats := by
  by_cases h : x.health = .lost
  · by_cases fourth : x.FourthGoodScan good scan
    · rw [afterTransaction_recovered h fourth]
    · rw [afterTransaction_lost h fourth]
  · rw [afterTransaction_served h]

/-- Every end of a transaction keeps an outstation's health in its ranges. -/
theorem Sound.afterTransaction (sound : x.Sound) (good scan : Bool) : (x.afterTransaction good scan).Sound := by
  obtain ⟨counter, _, _, run, idle, stats⟩ := sound
  have bound := counterAfter_le counter good
  by_cases h : x.health = .lost
  · by_cases fourth : x.FourthGoodScan good scan
    · rw [afterTransaction_recovered h fourth]
      exact ⟨by simp, by simp, by simp, by simp, by simp, stats⟩
    · rw [afterTransaction_lost h fourth]
      exact ⟨bound, by simp [h], by simp [h], lostRun_lt run fourth, by simp [h], stats⟩
  · rw [afterTransaction_served h, idle h, ite_self]
    refine ⟨bound, fun healthy => ?_, fun degraded => ?_, by simp, fun _ => rfl, stats⟩
    · have := (Health.fromCounter_eq_healthy_iff h _).1 healthy
      dsimp only; omega
    · have := (Health.fromCounter_eq_degraded_iff h _).1 degraded
      dsimp only; omega

/-- HEALTHY passes through DEGRADED on its way to LOST: from below 64 no single end reaches 128 (R29). -/
theorem Sound.afterTransaction_ne_lost (sound : x.Sound) (healthy : x.health = .healthy) (good scan : Bool) :
    (x.afterTransaction good scan).health ≠ .lost := by
  obtain ⟨_, below, _⟩ := sound
  have served : x.health ≠ .lost := by simp [healthy]
  have := below healthy
  have := counterAfter_le_add x.counter good
  rw [afterTransaction_served served, ne_eq, Health.fromCounter_eq_lost_iff served]
  omega

end StationLive

/-- Settles O28: the three ways a transaction can end, and what each of them keeps. -/
theorem healthFollowsTheCounter : Obligations.HealthFollowsTheCounter := by
  unfold Obligations.HealthFollowsTheCounter
  refine fun x good scan => ⟨x.afterTransaction_stats good scan, fun served => ?served,
    fun lost hscan hgood run => ?recovered, fun lost fourth => ?lost,
    fun sound => ⟨sound.afterTransaction good scan, fun healthy => sound.afterTransaction_ne_lost healthy good scan⟩⟩
  case served =>
    rw [StationLive.afterTransaction_served served]
    exact ⟨rfl, Health.fromCounter_eq_lost_iff served _, Health.fromCounter_eq_degraded_iff served _,
      Health.fromCounter_eq_healthy_iff served _, fun lost => if_pos lost⟩
  case recovered =>
    rw [StationLive.afterTransaction_recovered lost ⟨hscan, hgood, run⟩]
    exact ⟨rfl, rfl, rfl⟩
  case lost =>
    rw [StationLive.afterTransaction_lost lost fourth]
    exact ⟨lost, rfl, rfl⟩

end Sys2Proof.Machine

/-! ## Obligation O35: stages 1 to 4 of a sample (R41, R43 to R45) -/

namespace Sys2Proof.Machine

/-! ### The five bands (R41) -/

theorem bandOf_under {r : Nat} (h : r ≤ 10376) : bandOf r = .error .underRange := if_pos h

theorem bandOf_low {r : Nat} (h : 10377 ≤ r) (h' : r ≤ 10922) : bandOf r = .ok 10923 := by
  rw [bandOf, if_neg (by omega), if_pos h']

theorem bandOf_measuring {r : Nat} (h : 10923 ≤ r) (h' : r ≤ 54613) : bandOf r = .ok r := by
  rw [bandOf, if_neg (by omega), if_neg (by omega), if_pos h']

theorem bandOf_high {r : Nat} (h : 54614 ≤ r) (h' : r ≤ 55978) : bandOf r = .ok 54613 := by
  rw [bandOf, if_neg (by omega), if_neg (by omega), if_neg (by omega), if_pos h']

theorem bandOf_over {r : Nat} (h : 55979 ≤ r) : bandOf r = .error .overRange := by
  rw [bandOf, if_neg (by omega), if_neg (by omega), if_neg (by omega), if_neg (by omega)]

/-! ### The conversion (R43) -/

/-- The conversion clamps the pressure of the rule, which it computes in the naturals before it adds the zero offset. -/
theorem cast_convert (rec : PointRec) {rc : Nat} (h : 10923 ≤ rc) :
    (convert rec rc : Int) = max 0 (min 1048575 ((rc - 10923 : Int) * rec.fullScale / 43690 + rec.zeroOffset)) := by
  rw [convert, clampInt, Int.toNat_of_nonneg (le_max_left ..)]
  push_cast [h]
  rfl

/-! ### The filter (R44)

The filter is symmetric: on either side of the pressure it moves by the same number of pascals for the same distance. -/

/-- How far the filter moves at a distance from the pressure: a power-of-two fraction of it, and one pascal at least
unless it is there. -/
def filterMove (shift d : Nat) : Nat := max (d / 2 ^ shift) (min d 1)

theorem filterMove_le (shift d : Nat) : filterMove shift d ≤ d :=
  max_le (Nat.div_le_self ..) (min_le_left ..)

theorem filterMove_pos (shift : Nat) {d : Nat} (h : 0 < d) : 0 < filterMove shift d :=
  lt_max_of_lt_right (lt_min h one_pos)

theorem filterMove_shift_zero (d : Nat) : filterMove 0 d = d := by
  simp [filterMove]

theorem filterMove_far {shift d : Nat} (h : 2 ^ shift ≤ d) : filterMove shift d = d / 2 ^ shift :=
  max_eq_left ((min_le_right ..).trans (Nat.div_pos h (by positivity)))

theorem filterMove_near {shift d : Nat} (h : 0 < d) (h' : d < 2 ^ shift) : filterMove shift d = 1 := by
  rw [filterMove, Nat.div_eq_of_lt h', min_eq_right h, max_eq_right zero_le_one]

theorem filterStep_natCast (shift d : Nat) : filterStep shift d = filterMove shift d := by
  have quotient : (d : Int).tdiv (2 ^ shift) = (d / 2 ^ shift : Nat) := by
    rw [Int.ofNat_tdiv]; push_cast; rfl
  rw [filterStep, quotient, filterMove]
  generalize d / 2 ^ shift = q
  split_ifs <;> omega

/-- Truncation toward zero makes the step an odd function. -/
theorem filterStep_neg (shift : Nat) (d : Int) : filterStep shift (-d) = -filterStep shift d := by
  simp only [filterStep, Int.neg_tdiv]
  split_ifs <;> omega

theorem filterValue_shift_zero (f p : Nat) : filterValue 0 f p = p := if_pos rfl

/-- From below the pressure the filtered value rises by the move of its distance. -/
theorem filterValue_rises (shift : Nat) {f p : Nat} (h : f ≤ p) :
    filterValue shift f p = f + filterMove shift (p - f) := by
  by_cases hs : shift = 0
  · subst hs
    rw [filterValue_shift_zero, filterMove_shift_zero, Nat.add_sub_cancel' h]
  · rw [filterValue, if_neg hs, ← Nat.cast_sub h, filterStep_natCast, ← Nat.cast_add, Int.toNat_natCast]

/-- From above the pressure the filtered value falls by the move of its distance. -/
theorem filterValue_falls (shift : Nat) {f p : Nat} (h : p ≤ f) :
    filterValue shift f p = f - filterMove shift (f - p) := by
  by_cases hs : shift = 0
  · subst hs
    rw [filterValue_shift_zero, filterMove_shift_zero, Nat.sub_sub_self h]
  · rw [filterValue, if_neg hs, ← neg_sub, ← Nat.cast_sub h, filterStep_neg, filterStep_natCast, ← sub_eq_add_neg,
      Int.toNat_sub]

/-- The filtered value never passes the pressure. -/
theorem filterValue_between (shift f p : Nat) :
    min f p ≤ filterValue shift f p ∧ filterValue shift f p ≤ max f p := by
  rcases le_total f p with h | h
  · rw [filterValue_rises shift h]
    have := filterMove_le shift (p - f)
    omega
  · rw [filterValue_falls shift h]
    have := filterMove_le shift (f - p)
    omega

/-- Each sample brings the filtered value nearer to the pressure, until it is there. -/
theorem filterValue_approaches (shift f p : Nat) :
    max (filterValue shift f p) p - min (filterValue shift f p) p ≤ max f p - min f p - 1 := by
  have := filterValue_between shift f p
  rcases lt_trichotomy f p with h | rfl | h
  · have := filterMove_pos shift (Nat.sub_pos_of_lt h)
    have := filterValue_rises shift h.le
    omega
  · omega
  · have := filterMove_pos shift (Nat.sub_pos_of_lt h)
    have := filterValue_falls shift h.le
    omega

theorem filterValue_ne (shift : Nat) {f p : Nat} (h : f ≠ p) : filterValue shift f p ≠ f := by
  have := filterValue_approaches shift f p
  intro still
  rw [still] at this
  omega

/-- A run of equal samples takes at least one pascal a sample off the distance to the pressure. -/
theorem repeat_filterValue_approaches (shift f p n : Nat) :
    max (Nat.repeat (fun g => filterValue shift g p) n f) p - min (Nat.repeat (fun g => filterValue shift g p) n f) p
      ≤ max f p - min f p - n := by
  induction n with
  | zero => exact le_rfl
  | succ n ih =>
    have := filterValue_approaches shift (Nat.repeat (fun g => filterValue shift g p) n f) p
    rw [Nat.repeat]
    omega

theorem repeat_filterValue_arrives (shift : Nat) {f p n : Nat} (h : max f p - min f p ≤ n) :
    Nat.repeat (fun g => filterValue shift g p) n f = p := by
  have := repeat_filterValue_approaches shift f p n
  omega

/-! ### The rate (R45) -/

section
variable (old : Option Int) {f before dt : Nat}

theorem rateOf_same_time : rateOf old f before 0 = old := if_pos rfl

theorem rateOf_gap (h : 600 < dt) : rateOf old f before dt = none := by
  rw [rateOf, if_neg (by omega), if_pos h]

/-- Within the gap limit the rate is the truncated quotient in its clamp. -/
theorem rateOf_clamped (h : 0 < dt) (h' : dt ≤ 600) :
    rateOf old f before dt = some (max (-8388607) (min 8388607 ((((f : Int) - before) * 600).tdiv dt))) := by
  rw [rateOf, if_neg h.ne', if_neg h'.not_gt]
  rfl

theorem rateOf_rising (h : 0 < dt) (h' : dt ≤ 600) (rise : before ≤ f) :
    rateOf old f before dt = some (min ((f - before) * 600 / dt) 8388607 : Nat) := by
  have quotient : (((f : Int) - before) * 600).tdiv dt = ((f - before) * 600 / dt : Nat) := by
    rw [Int.ofNat_tdiv]; push_cast [rise]; rfl
  rw [rateOf_clamped old h h', quotient]
  generalize (f - before) * 600 / dt = q
  congr 1
  omega

/-- Truncation toward zero makes a fall the negative of the rise of the same size. -/
theorem rateOf_falling (h : 0 < dt) (h' : dt ≤ 600) (fall : f ≤ before) :
    rateOf old f before dt = some (-(min ((before - f) * 600 / dt) 8388607 : Nat) : Int) := by
  have quotient : (((f : Int) - before) * 600).tdiv dt = -((before - f) * 600 / dt : Nat) := by
    rw [← neg_sub, neg_mul, Int.neg_tdiv, Int.ofNat_tdiv]; push_cast [fall]; rfl
  rw [rateOf_clamped old h h', quotient]
  generalize (before - f) * 600 / dt = q
  congr 1
  omega

end

/-- Settles O35: the filter's clauses say how far `filterMove` goes from either side of the pressure. -/
theorem sampleMeasures : Obligations.SampleMeasures := by
  unfold Obligations.SampleMeasures
  refine ⟨fun r => ⟨bandOf_under, bandOf_low, bandOf_measuring, bandOf_high, bandOf_over⟩, ?conversion, ?filter, ?rate⟩
  case conversion =>
    intro rec rc low high
    have clamped := cast_convert rec low
    refine ⟨by omega, ?_⟩
    rintro p rfl
    exact ⟨fun _ => by omega, fun _ => by omega, fun _ _ => by omega⟩
  case filter =>
    intro shift f p
    obtain ⟨above, below⟩ := filterValue_between shift f p
    refine ⟨above, below, filterValue_ne shift, fun n => repeat_filterValue_arrives shift, filterValue_shift_zero f p,
      fun rise far => ?_, fun fall far => ?_, fun _ rise near => ?_, fun _ fall near => ?_⟩
    · rw [filterValue_rises shift rise, filterMove_far far]
    · rw [filterValue_falls shift fall, filterMove_far far]
    · rw [filterValue_rises shift rise.le, filterMove_near (Nat.sub_pos_of_lt rise) near]
    · rw [filterValue_falls shift fall.le, filterMove_near (Nat.sub_pos_of_lt fall) near]
  case rate =>
    intro old f before dt
    exact ⟨fun still => still ▸ rateOf_same_time old, rateOf_gap old, rateOf_rising old, rateOf_falling old⟩

end Sys2Proof.Machine

/-! ## Obligation O36: the candidate zone and its persistence (R46, R48) -/

namespace Sys2Proof.Machine

/-! ### The two sides of a boundary, and the band in which the current zone decides (R46) -/

section
variable {f b h : Nat} {current : Bool}

theorem lowSide_below (below : f < b) : lowSide f b h current = true := if_pos below

theorem lowSide_inside (lo : b ≤ f) (hi : f < b + h) : lowSide f b h current = current := by
  rw [lowSide, if_neg lo.not_gt, if_neg hi.not_ge]

theorem lowSide_above (above : b + h ≤ f) : lowSide f b h current = false := by
  rw [lowSide, if_neg (by omega), if_pos above]

theorem highSide_above (above : b < f) : highSide f b h current = true := if_pos above

theorem highSide_inside (lo : b < f + h) (hi : f ≤ b) : highSide f b h current = current := by
  rw [highSide, if_neg hi.not_gt, if_neg (by omega)]

theorem highSide_below (below : f + h ≤ b) : highSide f b h current = false := by
  rw [highSide, if_neg (by omega), if_pos (by omega)]

end

/-- At or above the bands of both low boundaries the high boundaries alone decide. -/
theorem candidateZone_above_low {rec : PointRec} {f : Nat} (current : Zone) (alarm : rec.lowAlarm + rec.hysteresis ≤ f)
    (warn : rec.lowWarn + rec.hysteresis ≤ f) :
    candidateZone rec current f
      = if highSide f rec.highAlarm rec.hysteresis (current == .highAlarm) then .highAlarm
        else if highSide f rec.highWarn rec.hysteresis (current == .highWarn || current == .highAlarm) then .highWarn
        else .normal := by
  simp [candidateZone, lowSide_above alarm, lowSide_above warn]

/-! ### The persistence (R48) -/

section
variable (rec : PointRec) (t : Time) {current candidate : Zone} {pending : Option (Zone × Time)}

theorem persist_same (same : candidate = current) : persist rec t current candidate pending = (current, none) :=
  if_pos same

/-- A zone that is pending keeps its deadline. -/
theorem persist_pending (differs : candidate ≠ current) (deadline : Time) :
    persist rec t current candidate (some (candidate, deadline))
      = if (t - deadline).toNat < 2147483648 then (candidate, none) else (current, some (candidate, deadline)) := by
  simp [persist, differs, deadlineReached, Time.since]

/-- A zone that was not pending starts its wait at the sample, by the direction of the change. -/
theorem persist_starts (fresh : ∀ d, pending ≠ some (candidate, d)) :
    persist rec t current candidate pending
      = persist rec t current candidate (some (candidate, t + .ofNat 32
          (if current.severity < candidate.severity then rec.persistEnter else rec.persistClear))) := by
  rcases pending with _ | ⟨zone, d⟩
  · simp [persist]
  · have other : zone ≠ candidate := fun same => fresh d (same ▸ rfl)
    simp [persist, other]

end

/-- Settles O36: each band of R46 decides the four sides; inside a boundary's band the current zone decides that side. -/
theorem zonesWaitTheirPersistence : Obligations.ZonesWaitTheirPersistence := by
  unfold Obligations.ZonesWaitTheirPersistence
  refine ⟨?candidate, ?persistence⟩
  case candidate =>
    intro rec current f lowGap midGap highGap
    refine ⟨fun below => ?_, fun lo hi => ?_, fun lo hi => ?_, fun lo hi => ?_, fun lo hi => ?_,
      fun lo hi => ?_, fun lo hi => ?_, fun lo hi => ?_, fun above => ?_⟩
    · simp [candidateZone, lowSide_below below]
    · simp [candidateZone, lowSide_inside lo hi, lowSide_below (show f < rec.lowWarn by omega)]
    · simp [candidateZone, lowSide_above lo, lowSide_below hi]
    · simp [candidateZone, lowSide_above (show rec.lowAlarm + rec.hysteresis ≤ f by omega), lowSide_inside lo hi,
        highSide_below (show f + rec.hysteresis ≤ rec.highAlarm by omega),
        highSide_below (show f + rec.hysteresis ≤ rec.highWarn by omega)]
    · rw [candidateZone_above_low current (by omega) lo]
      simp [highSide_below (show f + rec.hysteresis ≤ rec.highAlarm by omega), highSide_below hi]
    · rw [candidateZone_above_low current (by omega) (by omega)]
      simp [highSide_below (show f + rec.hysteresis ≤ rec.highAlarm by omega), highSide_inside lo hi]
    · rw [candidateZone_above_low current (by omega) (by omega)]
      simp [highSide_below hi, highSide_above lo]
    · rw [candidateZone_above_low current (by omega) (by omega)]
      simp [highSide_inside lo hi, highSide_above (show rec.highWarn < f by omega)]
    · rw [candidateZone_above_low current (by omega) (by omega)]
      simp [highSide_above above]
  case persistence =>
    intro rec t current candidate pending
    refine ⟨persist_same rec t, fun differs deadline held => ?_, rfl, rfl, rfl, rfl, rfl⟩
    rcases held with rfl | ⟨fresh, rfl⟩
    · exact persist_pending rec t differs deadline
    · exact (persist_starts rec t fresh).trans (persist_pending rec t differs _)

end Sys2Proof.Machine

/-! ## The Valve and Order Unit under the other blocks' operations

Which operations leave the unit as it is, and what the others leave of a valve's record. -/

namespace Sys2Proof.Machine

/-- What every step of a fold keeps, the fold keeps. -/
theorem foldl_keeps {α β : Type} (g : State → β) {f : State → α → State} (h : ∀ s a, g (f s a) = g s) (l : List α)
    (s : State) : g (l.foldl f s) = g s := by
  induction l generalizing s with
  | nil => rfl
  | cons a l ih => rw [List.foldl_cons, ih, h]

/-! ### Tables: a read after a write, in canonical form or not -/

namespace Table
variable {α : Type} (t : Table α) (i j : Nat)

theorem get_set_any (a : α) : (t.set i a).get j = if i = j then some a else t.get j := by
  obtain ⟨rows⟩ := t
  simp only [get, set]
  induction rows with
  | nil => rfl
  | cons r rest ih =>
    obtain ⟨k, b⟩ := r
    by_cases lt : i < k
    · rw [rowSet, if_pos lt, rowGet]
    · by_cases e : i = k
      · subst e
        rw [rowSet, if_neg lt, if_pos rfl, rowGet, rowGet]
        split <;> rfl
      · rw [rowSet, if_neg lt, if_neg e, rowGet, ih, rowGet]
        by_cases hk : k = j
        · rw [if_pos hk, if_pos hk, if_neg (fun h => e (h.trans hk.symm))]
        · rw [if_neg hk, if_neg hk]

theorem get_modify_any (f : α → α) : (t.modify i f).get j = if i = j then (t.get i).map f else t.get j := by
  unfold modify
  cases h : t.get i with
  | none =>
    by_cases e : i = j
    · rw [if_pos e, ← e, h, Option.map_none]
    · rw [if_neg e]
  | some a => exact t.get_set_any i j (f a)

end Table

/-! ### Operations that leave the unit as it is -/

section
variable (s : State)

@[simp] theorem State.setEngine_vou (e : EngineState) : (s.setEngine e).vou = s.vou := rfl
@[simp] theorem State.modContext_vou (c : Nat) (f : Context → Context) : (s.modContext c f).vou = s.vou := rfl
@[simp] theorem State.setStatus_vou (c v : Nat) (st : EntryStatus) : (s.setStatus c v st).vou = s.vou := rfl
@[simp] theorem State.modReopen_vou (c v : Nat) (f : ReopenEntry → ReopenEntry) :
    (s.modReopen c v f).vou = s.vou := rfl
@[simp] theorem State.postIsolation_vou (c : Nat) (old : ContextState) (breached : Option Nat) :
    (s.postIsolation c old breached).vou = s.vou := rfl
@[simp] theorem State.postUnslotted_vou (c v : Nat) (a : Action) (o : OrderOutcome) :
    (s.postUnslotted c v a o).vou = s.vou := rfl
@[simp] theorem State.bringRecord_vou (n : Nat) : (s.bringRecord n).vou = s.vou := rfl
@[simp] theorem State.freeRecord_vou (n : Nat) : (s.freeRecord n).vou = s.vou := rfl

@[simp] theorem State.linkIncident_vou (serial : Nat) (c : Option Nat) : (s.linkIncident serial c).vou = s.vou := by
  unfold State.linkIncident; split <;> rfl

/-! The Model Engine -/

@[simp] theorem State.chooseJob_vou : s.chooseJob.vou = s.vou := by
  unfold State.chooseJob; repeat' split
  all_goals rfl

@[simp] theorem State.requestTrace_vou : s.requestTrace.vou = s.vou := by
  unfold State.requestTrace; split <;> simp

@[simp] theorem State.enqueueSearch_vou (c : Nat) : (s.enqueueSearch c).vou = s.vou := by
  unfold State.enqueueSearch; dsimp only; split <;> simp

@[simp] theorem State.requestSearch_vou (c : Nat) : (s.requestSearch c).vou = s.vou := by
  unfold State.requestSearch; repeat' split
  all_goals simp

@[simp] theorem State.withdrawSearch_vou (c : Nat) : (s.withdrawSearch c).vou = s.vou := by
  unfold State.withdrawSearch; dsimp only; repeat' split
  all_goals simp

@[simp] theorem State.engineValveChange_vou (v : Nat) (old new : ValveLive) :
    (s.engineValveChange v old new).vou = s.vou := by
  unfold State.engineValveChange; dsimp only; repeat' split
  all_goals simp

/-! The Outage Unit -/

@[simp] theorem State.setOutageRef_vou (seg n : Nat) : (s.setOutageRef seg n).vou = s.vou := by
  unfold State.setOutageRef; split <;> rfl

@[simp] theorem State.joinRecord_vou (n seg : Nat) (cause : OutageCause) : (s.joinRecord n seg cause).vou = s.vou := by
  simp [State.joinRecord]

@[simp] theorem State.absorbRecord_vou (survivor a : Nat) : (s.absorbRecord survivor a).vou = s.vou := by
  simp [State.absorbRecord, foldl_keeps (·.vou)]

@[simp] theorem State.openRecord_vou (n seg : Nat) (cause : OutageCause) : (s.openRecord n seg cause).vou = s.vou := by
  simp [State.openRecord]

@[simp] theorem State.takeRecord_vou (seg : Nat) (cause : OutageCause) : (s.takeRecord seg cause).vou = s.vou := by
  unfold State.takeRecord; repeat' split
  all_goals simp

@[simp] theorem State.joinOutage_vou (seg : Nat) (cause : OutageCause) (member : Option Nat) :
    (s.joinOutage seg cause member).vou = s.vou := by
  unfold State.joinOutage; dsimp only; repeat' split
  all_goals simp [foldl_keeps (·.vou) State.bringRecord_vou, foldl_keeps (·.vou)]

@[simp] theorem State.postSegmentState_vou (seg : Nat) (old : ServiceState) :
    (s.postSegmentState seg old).vou = s.vou := by
  unfold State.postSegmentState; split <;> rfl

@[simp] theorem State.moveService_vou (seg : Nat) (x : Service) (new : ServiceState) :
    (s.moveService seg x new).vou = s.vou := by
  unfold State.moveService; split <;> simp

@[simp] theorem State.judgeInService_vou (seg : Nat) (x : Service) : (s.judgeInService seg x).vou = s.vou := by
  unfold State.judgeInService; dsimp only; split <;> simp

@[simp] theorem State.recause_vou (seg : Nat) (x : Service) (cause : OutageCause) :
    (s.recause seg x cause).vou = s.vou := by
  unfold State.recause; split <;> rfl

@[simp] theorem State.judgeOff_vou (seg : Nat) (x : Service) : (s.judgeOff seg x).vou = s.vou := by
  unfold State.judgeOff; repeat' split
  all_goals simp

@[simp] theorem State.judge_vou (seg : Nat) (x : Service) : (s.judge seg x).vou = s.vou := by
  unfold State.judge; split <;> simp

@[simp] theorem State.deliverMember_vou (seg : Nat) (member : Option Nat) :
    (s.deliverMember seg member).vou = s.vou := by
  unfold State.deliverMember State.serviceInput; split <;> simp

@[simp] theorem State.leaveZone_vou (zone : List Nat) : (s.leaveZone zone).vou = s.vou := by
  simp [State.leaveZone, foldl_keeps (·.vou)]

@[simp] theorem State.stopService_vou : s.stopService.vou = s.vou := by
  have kept (s : State) (n : Nat) : (s.discardActive n).vou = s.vou := by
    unfold State.discardActive; split <;> rfl
  simp [State.stopService, foldl_keeps (·.vou) kept]

end
end Sys2Proof.Machine

/-! ### Valve changes that keep the position -/

namespace Sys2Proof.Machine

section
variable {s : State}

/-- A context that is neither EXECUTING nor RELEASING takes no entry off the waiting list. -/
theorem State.enter_vou {c : Nat} (he : (s.context c).state ≠ .executing) (hr : (s.context c).state ≠ .releasing)
    (new : ContextState) (f : Context → Context) (breached : Option Nat) :
    (s.enter c new f breached).vou = s.vou := by
  simp [State.enter, State.dropWaiting, he, hr]

theorem State.staleCheck_vou (c v : Nat) (old new : ValveLive) : (s.staleCheck c v old new).vou = s.vou := by
  unfold State.staleCheck
  dsimp only
  split
  · rfl
  · split
    · next planned =>
      simp only [Bool.and_eq_true, decide_eq_true_eq] at planned
      obtain ⟨⟨planned, -⟩, -⟩ := planned
      rw [State.searchAgain, State.requestSearch_vou, State.enter_vou] <;> simp [planned]
    · rfl

/-- A change that keeps the position moves a context only out of PLANNED (R138), which leaves the orders alone. -/
theorem State.contextValveChange_vou {old new : ValveLive} (h : old.position = new.position) (v c : Nat) :
    (s.contextValveChange v old new c).vou = s.vou := by
  unfold State.contextValveChange
  split
  · rfl
  · rw [if_pos h, State.staleCheck_vou]
  · simp [h]

theorem State.isolationValveChange_vou {old new : ValveLive} (h : old.position = new.position) (v : Nat) :
    (s.isolationValveChange v old new).vou = s.vou :=
  foldl_keeps (·.vou) (fun _ _ => State.contextValveChange_vou h v _) _ s

@[simp] theorem State.postValveState_vou (v : Nat) (old new : ValveLive) (cause : ValveCause) :
    (s.postValveState v old new cause).vou = s.vou := by
  unfold State.postValveState; split <;> rfl

@[simp] theorem State.postAuthority_vou (v : Nat) (old new : ValveLive) (cause : AuthorityCause) :
    (s.postAuthority v old new cause).vou = s.vou := by
  unfold State.postAuthority; repeat' split
  all_goals rfl

/-- A valve change that keeps the position writes the valve's record and nothing else of the unit. -/
theorem State.writeValve_vou {old new : ValveLive} (h : old.position = new.position) (v : Nat) :
    (s.writeValve v old new).vou = (s.setValve v new).vou := by
  unfold State.writeValve
  dsimp only
  split
  · rw [State.isolationValveChange_vou h, State.engineValveChange_vou]
  · rfl

theorem State.changeAuthority_vou {v : Nat} {x : ValveLive} (h : s.vou.valves.get v = some x) (cause : AuthorityCause)
    (a : Authority) :
    (s.changeAuthority v cause a).vou = (s.setValve v { x with authority := some a }).vou := by
  simp only [State.changeAuthority, h, State.postAuthority_vou]
  exact State.writeValve_vou (by rfl) v

end

end Sys2Proof.Machine

/-! ### What no operation but a valve change writes of a valve's record -/

namespace Sys2Proof.Machine

/-- A valve's record apart from its order slot and its travel fault: what only a report, an entry, a flag of the host or
a change of authority writes. -/
def ValveLive.reported (x : ValveLive) : ValveLive := { x with slot := none, travelFault := false }

/-- The records of the valves apart from their order slots and travel faults. -/
def OrderUnit.reported (u : OrderUnit) (v : Nat) : Option ValveLive := (u.valves.get v).map ValveLive.reported

section
variable (s : State)

@[simp] theorem State.setSlot_reported (k : Nat) (o : Option Order) :
    (s.setSlot k o).vou.reported = s.vou.reported := rfl

@[simp] theorem State.setWaiting_reported (l : List WaitEntry) : (s.setWaiting l).vou.reported = s.vou.reported := rfl

@[simp] theorem State.setValveSlot_reported (v : Nat) (k : Option Nat) :
    (s.setValveSlot v k).vou.reported = s.vou.reported := by
  funext w
  simp only [OrderUnit.reported, State.setValveSlot, State.withVou_vou, Table.get_modify_any]
  split
  · next e => subst e; rw [Option.map_map]; rfl
  · rfl

theorem State.setValve_reported (v w : Nat) (x : ValveLive) :
    (s.setValve v x).vou.reported w = if v = w then some x.reported else s.vou.reported w := by
  simp only [OrderUnit.reported, State.setValve, State.withVou_vou, Table.get_set_any]
  split <;> rfl

@[simp] theorem State.takeSlot_reported (k v : Nat) (a : Action) (priority : Nat) (origin : Origin) (oneShot : Bool) :
    (s.takeSlot k v a priority origin oneShot).vou.reported = s.vou.reported := by
  simp [State.takeSlot]

@[simp] theorem State.contextRequest_reported (c v : Nat) (a : Action) :
    (s.contextRequest c v a).1.vou.reported = s.vou.reported := by
  unfold State.contextRequest State.endRequest; repeat' split
  all_goals simp

/-! The states of a context -/

@[simp] theorem State.dropWaiting_reported (c : Nat) (old : ContextState) :
    (s.dropWaiting c old).vou.reported = s.vou.reported := by
  unfold State.dropWaiting; split <;> simp

@[simp] theorem State.enter_reported (c : Nat) (new : ContextState) (f : Context → Context) (breached : Option Nat) :
    (s.enter c new f breached).vou.reported = s.vou.reported := by
  simp [State.enter]

@[simp] theorem State.failureRule_reported (c : Nat) : (s.failureRule c).vou.reported = s.vou.reported := by
  unfold State.failureRule State.searchAgain; split <;> simp

@[simp] theorem State.returnToPlanned_reported (c : Nat) : (s.returnToPlanned c).vou.reported = s.vou.reported := by
  unfold State.returnToPlanned; split <;> simp

@[simp] theorem State.checkClosed_reported (c : Nat) : (s.checkClosed c).vou.reported = s.vou.reported := by
  unfold State.checkClosed State.enterClosedWait; dsimp only; split <;> simp

@[simp] theorem State.freeContext_reported (c : Nat) : (s.freeContext c).vou.reported = s.vou.reported := by
  unfold State.freeContext; dsimp only; split <;> simp

@[simp] theorem State.checkReleased_reported (c : Nat) : (s.checkReleased c).vou.reported = s.vou.reported := by
  unfold State.checkReleased; dsimp only; split <;> simp

/-! Valve changes at a context -/

@[simp] theorem State.requestClose_reported (c v : Nat) : (s.requestClose c v).1.vou.reported = s.vou.reported := by
  simp [State.requestClose]

@[simp] theorem State.answerEffect_reported (c : Nat) (r : OrderReply) :
    (s.answerEffect c r).vou.reported = s.vou.reported := by
  unfold State.answerEffect; split <;> simp

@[simp] theorem State.boundaryClosed_reported (c v : Nat) :
    (s.boundaryClosed c v).vou.reported = s.vou.reported := by
  simp [State.boundaryClosed]

@[simp] theorem State.breach_reported (c v : Nat) : (s.breach c v).vou.reported = s.vou.reported := by
  simp [State.breach]

@[simp] theorem State.boundaryOpened_reported (c v : Nat) (e : BoundaryEntry) :
    (s.boundaryOpened c v e).vou.reported = s.vou.reported := by
  unfold State.boundaryOpened; dsimp only; repeat' split
  all_goals simp

@[simp] theorem State.boundaryUnknown_reported (c v : Nat) (e : BoundaryEntry) :
    (s.boundaryUnknown c v e).vou.reported = s.vou.reported := by
  unfold State.boundaryUnknown; repeat' split
  all_goals simp

@[simp] theorem State.boundaryUpdate_reported (c v : Nat) (p : Position) :
    (s.boundaryUpdate c v p).vou.reported = s.vou.reported := by
  unfold State.boundaryUpdate; repeat' split
  all_goals simp

@[simp] theorem State.reopened_reported (c v : Nat) : (s.reopened c v).vou.reported = s.vou.reported := by
  unfold State.reopened; dsimp only; split <;> simp

@[simp] theorem State.contextValveChange_reported (v : Nat) (old new : ValveLive) (c : Nat) :
    (s.contextValveChange v old new c).vou.reported = s.vou.reported := by
  unfold State.contextValveChange; dsimp only; repeat' split
  all_goals simp [State.staleCheck_vou]

@[simp] theorem State.isolationValveChange_reported (v : Nat) (old new : ValveLive) :
    (s.isolationValveChange v old new).vou.reported = s.vou.reported :=
  foldl_keeps (·.vou.reported) (fun t _ => t.contextValveChange_reported v old new _) _ s

/-! The outcome of a context's order, and the freed slot -/

@[simp] theorem State.routeReopen_reported (c v : Nat) : (s.routeReopen c v).vou.reported = s.vou.reported := by
  unfold State.routeReopen State.requestOpen; dsimp only; repeat' split
  all_goals simp

@[simp] theorem State.boundaryOutcome_reported (c v : Nat) (o : OrderOutcome) :
    (s.boundaryOutcome c v o).vou.reported = s.vou.reported := by
  unfold State.boundaryOutcome; dsimp only; repeat' split
  all_goals simp

@[simp] theorem State.interiorOutcome_vou (c v : Nat) (o : OrderOutcome) : (s.interiorOutcome c v o).vou = s.vou := by
  unfold State.interiorOutcome; split <;> rfl

@[simp] theorem State.heldOutcome_reported (c v : Nat) : (s.heldOutcome c v).vou.reported = s.vou.reported := by
  unfold State.heldOutcome; dsimp only; split <;> simp

@[simp] theorem State.deliverOutcome_reported (c v : Nat) (a : Action) (o : OrderOutcome) :
    (s.deliverOutcome c v a o).vou.reported = s.vou.reported := by
  unfold State.deliverOutcome State.openOutcome State.closeOutcome; repeat' split
  all_goals simp

@[simp] theorem State.deliverGrant_vou (c v : Nat) (a : Action) : (s.deliverGrant c v a).vou = s.vou := by
  unfold State.deliverGrant; split <;> rfl

@[simp] theorem State.tellOrigin_reported (o : Order) (outcome : OrderOutcome) :
    (s.tellOrigin o outcome).vou.reported = s.vou.reported := by
  unfold State.tellOrigin; split <;> simp

@[simp] theorem State.offerSlot_reported (k fuel : Nat) (s : State) :
    (State.offerSlot k fuel s).vou.reported = s.vou.reported := by
  induction fuel generalizing s with
  | zero => rfl
  | succ fuel ih =>
    unfold State.offerSlot
    dsimp only
    split
    · split
      · simp
      · simp [ih]
    · rfl

/-- An order ends: where step 3 of R78 has nothing to return, no valve's record changes but for its order slot. -/
theorem State.endOrder_reported {s : State} {k : Nat} {outcome : OrderOutcome}
    (h : ∀ o, s.slot k = some o → o.action = .recall → outcome = .done) :
    (s.endOrder k outcome).vou.reported = s.vou.reported := by
  unfold State.endOrder
  split
  · rfl
  · next o ho =>
    have stays (t : State) : t.returnRecall o outcome = t := if_neg fun ⟨asked, other, _⟩ => other (h o ho asked)
    simp [stays]

end

/-! ### A valve change in the reported fields -/

section
variable {s : State}

theorem State.writeValve_reported (v w : Nat) (old new : ValveLive) :
    (s.writeValve v old new).vou.reported w = if v = w then some new.reported else s.vou.reported w := by
  rw [← State.setValve_reported]
  unfold State.writeValve
  dsimp only
  split <;> simp

theorem State.changeValve_reported {v : Nat} {x : ValveLive} (h : s.vou.valves.get v = some x) (cause : ValveCause)
    (f : ValveLive → ValveLive) (w : Nat) :
    (s.changeValve v cause f).vou.reported w = if v = w then some (f x).reported else s.vou.reported w := by
  simp only [State.changeValve, h, State.postValveState_vou, State.writeValve_reported]

theorem State.changeAuthority_reported {v : Nat} {x : ValveLive} (h : s.vou.valves.get v = some x)
    (cause : AuthorityCause) (a : Authority) (w : Nat) :
    (s.changeAuthority v cause a).vou.reported w
      = if v = w then some { x.reported with authority := some a } else s.vou.reported w := by
  simp only [State.changeAuthority, h, State.postAuthority_vou, State.writeValve_reported]
  rfl

/-- The clearing of the travel fault is not among the reported fields. -/
theorem State.endDone_reported (s : State) (k : Nat) : (s.endDone k).vou.reported = s.vou.reported := by
  unfold State.endDone
  split
  · rfl
  · next o ho =>
    dsimp only
    split
    · rw [State.endOrder_reported fun _ _ _ => rfl]
      cases h : s.vou.valves.get o.valve with
      | none => simp [State.changeValve, h]
      | some x =>
        funext w
        rw [State.changeValve_reported h]
        split
        · next e => subst e; simp [OrderUnit.reported, h, ValveLive.reported]
        · rfl
    · exact State.endOrder_reported fun _ _ _ => rfl

end

end Sys2Proof.Machine

/-! ## Obligation O40: the end of an order transaction (R72 to R77) -/

namespace Sys2Proof.Machine

section
variable {s : State} {k : Nat} {o : Order} {r : TransactionResult} {health : Health}

/-! ### Writing a slot that holds an order -/

theorem State.setSlot_setSlot (a b : Option Order) : (s.setSlot k a).setSlot k b = s.setSlot k b := by
  simp [State.setSlot]

theorem State.modSlot_of_slot (ho : s.slot k = some o) (f : Order → Order) :
    s.modSlot k f = s.setSlot k (some (f o)) := by
  rw [State.modSlot, ho, Option.map_some]

theorem State.slot_setSlot_same (hk : k < 12) (a : Option Order) : (s.setSlot k a).slot k = a := by
  rw [State.setSlot_slot, if_pos ⟨rfl, hk⟩]

/-- The slot enters MOVING and its channel is loaded (R73). -/
theorem State.startMoving_of_slot (ho : s.slot k = some o) (d : Nat) :
    s.startMoving k d health
      = (s.setSlot k (some { o with stage := .moving })).startChannel (48 + k) d .single (health != .degraded) := by
  rw [State.startMoving, State.modSlot_of_slot ho]
  rfl

/-! ### The conditions of R72 in their order -/

theorem State.judgeTransaction_lost (ho : s.slot k = some o) :
    s.judgeTransaction k r .lost = s.endOrder k .linkLost := by
  simp [State.judgeTransaction, ho]

theorem State.judgeTransaction_abort (ho : s.slot k = some o) (served : health ≠ .lost)
    (abort : o.abortRequested = true) :
    s.judgeTransaction k r health = s.endOrder k (if r = .accept then .abortedLate else .aborted) := by
  simp [State.judgeTransaction, ho, served, abort]

section
variable (ho : s.slot k = some o) (served : health ≠ .lost) (kept : o.abortRequested = false)
include ho served kept

theorem State.judgeTransaction_accept : s.judgeTransaction k .accept health = s.acceptOrder k o health := by
  simp [State.judgeTransaction, ho, served, kept]

theorem State.judgeTransaction_busy : s.judgeTransaction k .busy health = s.retryOrder k o true := by
  simp [State.judgeTransaction, ho, served, kept]

theorem State.judgeTransaction_noReply : s.judgeTransaction k .noReply health = s.retryOrder k o false := by
  simp [State.judgeTransaction, ho, served, kept]

theorem State.judgeTransaction_rejectLocal {x : ValveLive} (hx : s.vou.valves.get o.valve = some x) :
    s.judgeTransaction k .rejectLocal health
      = (if x.authority = some .crew then s else s.changeAuthority o.valve .rejectLocal .crew).endOrder k
          .rejectedLocal := by
  simp [State.judgeTransaction, ho, served, kept, hx]

theorem State.judgeTransaction_rejectFault :
    s.judgeTransaction k .rejectFault health
      = (s.changeValve o.valve .orderAnswer fun y => { y with limitFault := true }).endOrder k .rejectedFault := by
  simp [State.judgeTransaction, ho, served, kept]

end

/-! ### A BUSY answer or a no reply (R74) -/

/-- The order with one attempt more, saturating at 7. -/
def Order.attempted (o : Order) : Order := { o with attempts := min (o.attempts + 1) 7 }

/-- The attempt is counted; a one-shot order ends, a no reply at the retry limit ends the order, a mode without orders
ends it, and otherwise it waits again. -/
theorem State.judgeTransaction_retry (ho : s.slot k = some o) (hk : k < 12) (served : health ≠ .lost)
    (kept : o.abortRequested = false) (answer : r = .busy ∨ r = .noReply) :
    s.judgeTransaction k r health
      = if o.oneShot = true then
          (s.setSlot k (some o.attempted)).endOrder k (if r = .busy then .failedBusy else .noReply)
        else if r = .noReply ∧ s.retryLimitOf o.valve ≤ o.attempted.attempts then
          (s.setSlot k (some o.attempted)).endOrder k .noReply
        else if s.inSupervise = false then (s.setSlot k (some o.attempted)).endOrder k .abortedMode
        else s.setSlot k (some { o.attempted with stage := .waiting }) := by
  have counted : s.modSlot k (fun x => { x with attempts := min (o.attempts + 1) 7 })
      = s.setSlot k (some o.attempted) := State.modSlot_of_slot ho _
  have attempts : o.attempted.attempts = min (o.attempts + 1) 7 := rfl
  have limit : (s.setSlot k (some o.attempted)).retryLimitOf o.valve = s.retryLimitOf o.valve := rfl
  have mode : (s.setSlot k (some o.attempted)).inSupervise = s.inSupervise := rfl
  have waits : (s.setSlot k (some o.attempted)).modSlot k (fun x => { x with stage := .waiting })
      = s.setSlot k (some { o.attempted with stage := .waiting }) := by
    rw [State.modSlot_of_slot (State.slot_setSlot_same hk _), State.setSlot_setSlot]
  rcases answer with rfl | rfl
  · rw [State.judgeTransaction_busy ho served kept]
    simp [State.retryOrder, counted, mode, waits]
  · rw [State.judgeTransaction_noReply ho served kept]
    simp [State.retryOrder, counted, limit, mode, waits, attempts]

theorem State.inSupervise_eq_false (h : s.crl.mode ≠ .supervise ∨ s.crl.pendingConfigure = true) :
    s.inSupervise = false := by
  rcases h with h | h <;> simp [State.inSupervise, h]

theorem State.inSupervise_eq_true (hm : s.crl.mode = .supervise) (hp : s.crl.pendingConfigure = false) :
    s.inSupervise = true := by
  simp [State.inSupervise, hm, hp]

/-! ### An ACCEPT, by action (R73, R76, R77) -/

section
variable {rec : ValveRec} {x : ValveLive} (hr : s.ms.valves.get o.valve = some rec)
  (hx : s.vou.valves.get o.valve = some x)
include hr hx

theorem State.acceptOrder_recall (ha : o.action = .recall) :
    s.acceptOrder k o health
      = if x.authority = some .remote then s.endDone k
        else (s.changeAuthority o.valve .recallSent .recallPending).startMoving k rec.recallTime health := by
  simp [State.acceptOrder, hr, hx, ha]

theorem State.acceptOrder_target (ho : s.slot k = some o) {p : Position} (ht : o.action.target = some p) :
    s.acceptOrder k o health
      = if x.position = p then s.endDone k else (s.setSlot k (some { o with stage := .moving })).startChannel
          (48 + k) rec.travelTime .single (health != .degraded) := by
  rw [← State.startMoving_of_slot ho]
  have reached : o.action.reached x.position = true ↔ x.position = p := by
    rw [Action.reached, ht, beq_iff_eq, Option.some_inj, eq_comm]
  cases ha : o.action <;> rw [ha] at ht reached
  case close | opening => simp [State.acceptOrder, hr, hx, ha, reached]
  all_goals cases ht

theorem State.acceptOrder_releaseLocal (ho : s.slot k = some o) (ha : o.action = .releaseLocal) :
    s.acceptOrder k o health
      = if x.authority = some .crew then s.endDone k else (s.setSlot k (some { o with stage := .moving })).startChannel
          (48 + k) rec.recallTime .single (health != .degraded) := by
  rw [← State.startMoving_of_slot ho]
  simp [State.acceptOrder, hr, hx, ha]

end

/-- A RECALL that starts: its order is MOVING, its channel loaded, and its valve in RECALL_PENDING (R76). -/
theorem State.recall_starts (hk : k < 12) (ho : s.slot k = some o) {x : ValveLive}
    (hx : s.vou.valves.get o.valve = some x) (d : Nat) {t : State}
    (ht : t = (s.changeAuthority o.valve .recallSent .recallPending).startMoving k d health) :
    t.slot k = some { o with stage := .moving } ∧ t.channel (48 + k) = .loaded d .single (health != .degraded)
      ∧ t.vou.valves.get o.valve = some { x with authority := some .recallPending } := by
  have hvou := State.changeAuthority_vou hx .recallSent .recallPending
  have hslot : (s.changeAuthority o.valve .recallSent .recallPending).slot k = some o := by
    rw [State.slot, hvou]; exact ho
  rw [State.startMoving_of_slot hslot] at ht
  subst ht
  refine ⟨State.slot_setSlot_same hk _, ?_, ?_⟩
  · rw [State.startChannel_channel, if_pos ⟨rfl, by omega⟩]
  · simp only [State.startChannel_vou, State.setSlot, State.withVou_vou, hvou, State.setValve, Table.get_set_any,
      if_true]

end

/-- Settles O40: the conditions of R72 in their order, with R74 and the actions of an ACCEPT said above. -/
theorem orderTransactionIsJudged : Obligations.OrderTransactionIsJudged := by
  unfold Obligations.OrderTransactionIsJudged
  intro s k o r health hk ho
  refine ⟨?lost, State.judgeTransaction_abort ho, ?retry, ?reject, ?accept⟩
  case lost =>
    rintro rfl
    exact State.judgeTransaction_lost ho
  case retry =>
    rintro served kept answer n rfl
    have judged := State.judgeTransaction_retry ho hk served kept answer
    refine ⟨fun once => ?_, fun again silent limit => ?_, fun again below => ?_⟩
    · exact judged.trans (if_pos once)
    · rw [if_neg (by simp [again]), if_pos ⟨silent, limit⟩] at judged
      exact judged
    · rw [if_neg (by simp [again]), if_neg fun ⟨silent, limit⟩ => (below silent).not_ge limit] at judged
      exact ⟨fun mode => judged.trans (if_pos (State.inSupervise_eq_false mode)),
        fun mode change => judged.trans (if_neg (by simp [State.inSupervise_eq_true mode change]))⟩
  case reject =>
    intro served kept x hx
    refine ⟨?_, ?_⟩
    · rintro rfl
      exact State.judgeTransaction_rejectLocal ho served kept hx
    · rintro rfl
      exact State.judgeTransaction_rejectFault ho served kept
  case accept =>
    rintro served kept rfl rec x hr hx -
    rw [State.judgeTransaction_accept ho served kept]
    refine ⟨fun ha => ?_, fun ha => ?_, State.acceptOrder_releaseLocal hr hx ho, fun ha remote => ?_,
      fun ha other => ⟨_, rfl, ?_⟩⟩
    · exact State.acceptOrder_target hr hx ho (by rw [ha]; rfl)
    · exact State.acceptOrder_target hr hx ho (by rw [ha]; rfl)
    · rw [State.acceptOrder_recall hr hx ha, if_pos remote]
    · exact State.recall_starts hk ho hx rec.recallTime ((State.acceptOrder_recall hr hx ha).trans (if_neg other))

end Sys2Proof.Machine

/-! ## Obligation O41: ABORT (R78, R79, R198) -/

namespace Sys2Proof.Machine

section
variable {s t : State} {k : Nat} {o : Order}

/-! ### The end of a host's order that no entry waits for (R78) -/

theorem State.changeAuthority_orders (v : Nat) (cause : AuthorityCause) (a : Authority) :
    (s.changeAuthority v cause a).vou.slots = s.vou.slots
      ∧ (s.changeAuthority v cause a).vou.waiting = s.vou.waiting := by
  cases h : s.vou.valves.get v with
  | none => simp [State.changeAuthority, h]
  | some x => rw [State.changeAuthority_vou h]; exact ⟨rfl, rfl⟩

theorem State.returnRecall_orders (o : Order) (outcome : OrderOutcome) :
    (s.returnRecall o outcome).vou.slots = s.vou.slots ∧ (s.returnRecall o outcome).vou.waiting = s.vou.waiting := by
  unfold State.returnRecall
  split
  · exact State.changeAuthority_orders ..
  · exact ⟨rfl, rfl⟩

theorem State.returnRecall_of_ne (h : o.action ≠ .recall) (outcome : OrderOutcome) : s.returnRecall o outcome = s :=
  if_neg fun ⟨asked, _⟩ => h asked

section
variable (ho : s.slot k = some o) (host : o.origin = .host) (alone : s.vou.waiting = []) (outcome : OrderOutcome)
include ho host alone

/-- The steps of R78 that are left: no context is told, and the freed slot stays free. -/
theorem State.endOrder_host :
    s.endOrder k outcome
      = ((((s.stopChannel (48 + k)).setValveSlot o.valve none).returnRecall o outcome).post .operations
          (.orderOutcome (some k) o.valve o.action .host outcome o.attempts)).setSlot k none := by
  have none_waits : ((((s.stopChannel (48 + k)).setValveSlot o.valve none).returnRecall o outcome).vou.waiting) = [] :=
    (State.returnRecall_orders o outcome).2.trans alone
  simp only [State.endOrder, ho, State.tellOrigin, host]
  rw [show Config.orderChannel = 48 from rfl]
  simp [State.setSlot, none_waits, State.offerSlot]

theorem State.endOrder_host_slot (j : Nat) :
    (s.endOrder k outcome).slot j = if k = j ∧ j < 12 then none else s.slot j := by
  rw [State.endOrder_host ho host alone, State.setSlot_slot]
  congr 1
  rw [State.slot, State.post_vou, (State.returnRecall_orders o outcome).1]
  rfl

end

/-! ### A pending change to CONFIGURE at the end of an order (R198) -/

theorem State.busySlot_congr {j : Nat} (h : t.slot j = s.slot j) : t.busySlot j = s.busySlot j := by
  rw [State.busySlot, State.busySlot, h]

theorem State.ordersBusy_iff : s.ordersBusy = true ↔ ∃ j, j < 12 ∧ s.busySlot j = true := by
  simp [State.ordersBusy]

/-- While an order is SENT or MOVING a pending change goes on waiting. -/
theorem State.settleConfigure_busy (h : s.crl.pendingConfigure = true → ∃ j, j < 12 ∧ s.busySlot j = true) :
    s.settleConfigure = s := by
  refine if_neg fun settles => ?_
  simp only [State.pendingChange, Bool.and_eq_true, Bool.not_eq_true'] at settles
  obtain ⟨pending, idle⟩ := settles
  rw [State.ordersBusy_iff.2 (h pending)] at idle
  cases idle

/-- Once no order is SENT or MOVING a pending change takes effect. -/
theorem State.settleConfigure_idle (pending : s.crl.pendingConfigure = true)
    (h : ∀ j, j < 12 → s.busySlot j = false) : s.settleConfigure = s.enterConfigure := by
  have idle : s.ordersBusy = false := by
    rw [Bool.eq_false_iff, ne_eq, State.ordersBusy_iff]
    rintro ⟨j, hj, busy⟩
    rw [h j hj] at busy
    cases busy
  simp [State.settleConfigure, State.pendingChange, pending, idle]

theorem State.enterConfigure_vou : s.enterConfigure.vou = .reset := by
  simp [State.enterConfigure, State.postMode, State.setMode, State.stopEngine, State.stopValves]

theorem State.enterConfigure_slot (j : Nat) : s.enterConfigure.slot j = none := by
  rw [State.slot, State.enterConfigure_vou, OrderUnit.reset, vector_getD, Vector.getElem?_replicate]
  split <;> rfl

/-! ### The answers of R79 -/

theorem State.abort_configure (h : s.crl.mode = .configure) : s.abortRequest k = refuse s .mode := by
  simp [State.abortRequest, State.inConfigure, h]

section
variable (h : s.crl.mode ≠ .configure)
include h

theorem State.abort_range (hk : 12 ≤ k) : s.abortRequest k = refuse s .range := by
  simp [State.abortRequest, State.inConfigure, h, hk]

theorem State.abort_free (hk : k < 12) (ho : s.slot k = none) : s.abortRequest k = refuse s .state := by
  simp [State.abortRequest, State.inConfigure, h, hk.not_ge, ho]

theorem State.abort_sent (hk : k < 12) (ho : s.slot k = some o) (hs : o.stage = .sent) :
    s.abortRequest k = (s.setSlot k (some { o with abortRequested := true }), .accepted, .empty) := by
  simp [State.abortRequest, State.inConfigure, h, hk.not_ge, ho, hs, State.modSlot]

theorem State.abort_ends (hk : k < 12) (ho : s.slot k = some o) (hs : o.stage ≠ .sent) :
    s.abortRequest k = (s.endOrder k (if o.stage = .waiting then .aborted else .abortedMoving), .ok, .empty) := by
  cases hst : o.stage with
  | sent => exact absurd hst hs
  | waiting | moving => simp [State.abortRequest, State.inConfigure, h, hk.not_ge, ho, hst]

end

/-- A taken ABORT gets the answer of R79, and then a pending change may take effect (R198). -/
theorem exec_abort {s s₀ : State} {tag : Byte} (hk : k < 256) (takes : s.Takes ⟨0x43#8, tag, joinFields [1] [k]⟩ s₀)
    {code : ResultCode} {body : ReplyBody} (hr : s₀.abortRequest k = (t, code, body)) :
    exec (.abort tag (joinFields [1] [k])) s = .next (t.settleConfigure.answered 0x43#8 tag code body) :=
  exec_answers (oneField State.abortAndSettle) rfl takes (by decide) rfl ⟨hk, trivial⟩
    (by rw [oneField, State.abortAndSettle, hr])

/-- An ABORT that leaves an order busy, or finds no change pending, is answered in the state of R79. -/
theorem exec_abort_unsettled {s s₀ : State} {tag : Byte} (hk : k < 256)
    (takes : s.Takes ⟨0x43#8, tag, joinFields [1] [k]⟩ s₀) {code : ResultCode} {body : ReplyBody}
    (hr : s₀.abortRequest k = (t, code, body))
    (busy : t.crl.pendingConfigure = true → ∃ j, j < 12 ∧ t.busySlot j = true) :
    exec (.abort tag (joinFields [1] [k])) s = .next (t.answered 0x43#8 tag code body) := by
  rw [exec_abort hk takes hr, State.settleConfigure_busy busy]

end

/-- Settles O41: the answers of R79 in their order, and a pending change by whether another order is busy. -/
theorem abortEndsOrMarksTheOrder : Obligations.AbortEndsOrMarksTheOrder := by
  unfold Obligations.AbortEndsOrMarksTheOrder
  intro s s₀ tag k hk takes waits
  have busy (pending : s₀.crl.pendingConfigure = true) : ∃ j, j < 12 ∧ s₀.busySlot j = true := (waits pending).2
  refine ⟨fun configure => exec_abort_unsettled hk takes (State.abort_configure configure) busy,
    fun service range => exec_abort_unsettled hk takes (State.abort_range service range) busy,
    fun service range => ⟨fun free => exec_abort_unsettled hk takes (State.abort_free service range free) busy,
      fun o ho => ⟨fun sent => ?sent, fun other => ?ends, fun other host action alone rest => ?host,
        fun moving host alone pending last => ?last⟩⟩⟩
  case sent =>
    refine exec_abort_unsettled hk takes (State.abort_sent service range ho sent) fun _ => ⟨k, range, ?_⟩
    simp [State.busySlot, State.slot_setSlot_same range, sent]
  case ends => exact exec_abort hk takes (State.abort_ends service range ho other)
  case host =>
    have ended := State.abort_ends service range ho other
    have slots := State.endOrder_host_slot ho host alone (if o.stage = .waiting then .aborted else .abortedMoving)
    have goes_on := exec_abort_unsettled hk takes ended fun pending => by
      rw [(Reach.endOrder (b := false) k _ .refl).keeps_crl] at pending
      obtain ⟨j, hj, hne, hbusy⟩ := rest pending
      exact ⟨j, hj, (State.busySlot_congr (by rw [slots, if_neg fun ⟨same, _⟩ => hne same.symm])).trans hbusy⟩
    rw [goes_on, State.endOrder_host ho host alone, State.returnRecall_of_ne action]
  case last =>
    have other : o.stage ≠ .sent := by simp [moving]
    refine ⟨_, exec_abort hk takes (State.abort_ends service range ho other), ?_⟩
    rw [if_neg (by simp [moving]), State.settleConfigure_idle]
    · exact ⟨rfl, rfl, State.enterConfigure_slot⟩
    · rw [(Reach.endOrder (b := false) k _ .refl).keeps_crl]
      exact pending
    · intro j hj
      have slot := State.endOrder_host_slot ho host alone .abortedMoving j
      by_cases same : k = j
      · rw [if_pos ⟨same, hj⟩] at slot
        simp [State.busySlot, slot]
      · rw [if_neg fun ⟨e, _⟩ => same e] at slot
        rw [State.busySlot_congr slot]
        exact last j hj fun e => same e.symm

end Sys2Proof.Machine

/-! ## Obligation O46: a reported entry (R60, R61, R66) -/

namespace Sys2Proof.Machine

/-! ### The limits and the switch of one record -/

section
variable (x : ValveLive) (openLimit closedLimit : Bool)

@[simp] theorem ValveLive.fromLimits_authority : (x.fromLimits openLimit closedLimit).authority = x.authority := by
  cases openLimit <;> cases closedLimit <;> rfl

@[simp] theorem ValveLive.fromLimits_inhibit : (x.fromLimits openLimit closedLimit).inhibit = x.inhibit := by
  cases openLimit <;> cases closedLimit <;> rfl

end

/-- The authority a local switch leaves (the table of R66). -/
def Authority.afterSwitch (on : Bool) (a : Authority) : Authority := ((a.fromSwitch on).map (·.1)).getD a

theorem Authority.afterSwitch_on (a : Authority) : a.afterSwitch true = if a = .remote then .crew else a := by
  cases a <;> rfl

theorem Authority.afterSwitch_off (a : Authority) : a.afterSwitch false = .remote := by cases a <;> rfl

/-- The only RECALL that the switch ends is one it answers, which ends DONE (R76). -/
theorem Action.switchOutcome_recall {on : Bool} {outcome : OrderOutcome}
    (h : Action.recall.switchOutcome on = some outcome) : outcome = .done := by
  cases on <;> cases h
  rfl

/-! ### Steps 2 to 4 of R61 in the reported fields -/

section
variable {s : State}

theorem OrderUnit.reported_authority (u : OrderUnit) (v : Nat) :
    (u.valves.get v).bind (·.authority) = (u.reported v).bind (·.authority) := by
  rw [OrderUnit.reported, Option.bind_map]; rfl

theorem State.liveOrder_eq (v : Nat) : s.liveOrder v = ((s.vou.valves.get v).bind (·.slot)).bind s.slot := by
  rw [State.liveOrder, Option.bind_assoc]

theorem State.judgeTarget_reported (v : Nat) : (s.judgeTarget v).vou.reported = s.vou.reported := by
  unfold State.judgeTarget
  split
  · split
    · split
      · exact s.endDone_reported _
      · rfl
    · rfl
  · rfl

/-- Step 3 writes the authority that the switch leaves, where the valve has one. -/
theorem State.judgeSwitch_reported {v : Nat} {x : ValveLive} (h : s.vou.reported v = some x) (on : Bool) :
    (s.judgeSwitch v on).vou.reported v = some { x with authority := x.authority.map (Authority.afterSwitch on) } := by
  obtain ⟨y, hy, rfl⟩ := Option.map_eq_some_iff.1 h
  rw [State.judgeSwitch, OrderUnit.reported_authority, h, Option.bind_some]
  cases ha : y.reported.authority with
  | none => dsimp only; rw [h, Option.map_none, ← ha]
  | some a =>
    rw [Option.map_some, Authority.afterSwitch]
    cases hc : a.fromSwitch on with
    | none => simp only [hc, Option.map_none, Option.getD_none, ← ha]; exact h
    | some c => simp only [hc, State.changeAuthority_reported hy, if_true]; rfl

theorem State.judgeMoving_reported (v : Nat) (on : Bool) : (s.judgeMoving v on).vou.reported = s.vou.reported := by
  unfold State.judgeMoving
  split
  · next k o hk ho =>
    rw [State.liveOrder_eq, hk, Option.bind_some] at ho
    split
    · split
      · rfl
      · next outcome hend =>
        refine State.endOrder_reported fun o' ho' asked => ?_
        cases ho.symm.trans ho'
        rw [asked] at hend
        exact Action.switchOutcome_recall hend
    · rfl
  · rfl

/-! ### An entry for a valve of each actuation -/

section
variable {r : ValveReading} {rec : ValveRec} {x : ValveLive} (hr : s.ms.valves.get r.valve = some rec)
  (hx : s.vou.valves.get r.valve = some x)
include hr hx

/-- A MONITORED valve goes through step 1 only. -/
theorem State.deliverReading_monitored (ha : rec.actuation = .monitored) :
    (s.deliverReading r).vou.reported r.valve = some (x.fromLimits r.openLimit r.closedLimit).reported := by
  simp only [State.deliverReading, hr, ha, State.changeValve_reported hx, if_true]

/-- A REMOTE valve goes through all four steps, and only the first and the third write reported fields. -/
theorem State.deliverReading_remote (ha : rec.actuation = .remote) :
    (s.deliverReading r).vou.reported r.valve
      = some { (x.fromLimits r.openLimit r.closedLimit).reported with
          authority := x.authority.map (Authority.afterSwitch r.localSwitch) } := by
  simp only [State.deliverReading, hr, ha, State.judgeMoving_reported]
  rw [State.judgeSwitch_reported (x := (x.fromLimits r.openLimit r.closedLimit).reported)]
  · simp [ValveLive.reported]
  · rw [State.judgeTarget_reported, State.changeValve_reported hx, if_pos rfl]

/-- After an entry the record has the fields of the limits, and the authority it had or that of the switch. -/
theorem State.deliverReading_get (ha : rec.actuation ≠ .manual) :
    ∃ y, (s.deliverReading r).vou.valves.get r.valve = some y
      ∧ y.reported = { (x.fromLimits r.openLimit r.closedLimit).reported with
          authority := if rec.actuation = .remote then x.authority.map (Authority.afterSwitch r.localSwitch)
            else x.authority } := by
  refine Option.map_eq_some_iff.1 ?_
  change (s.deliverReading r).vou.reported r.valve = _
  cases hact : rec.actuation with
  | manual => exact absurd hact ha
  | monitored =>
    rw [State.deliverReading_monitored hr hx hact]
    simp [ValveLive.reported]
  | remote => rw [State.deliverReading_remote hr hx hact, if_pos rfl]

end
end

/-- Settles O46: the record after the entry, field by field. -/
theorem limitsGiveThePosition : Obligations.LimitsGiveThePosition := by
  unfold Obligations.LimitsGiveThePosition
  intro s r rec x hr hx ha
  obtain ⟨y, hy, fields⟩ := State.deliverReading_get hr hx ha
  obtain ⟨position, settled, authority, limitFault, -, inhibit, -⟩ := ValveLive.mk.inj fields
  have limits {openLimit closedLimit : Bool} (ho : r.openLimit = openLimit) (hc : r.closedLimit = closedLimit) :
      y.position = (x.fromLimits openLimit closedLimit).position
        ∧ y.settled = (x.fromLimits openLimit closedLimit).settled
        ∧ y.limitFault = (x.fromLimits openLimit closedLimit).limitFault := by
    subst ho hc
    exact ⟨position, settled, limitFault⟩
  refine ⟨y, hy, inhibit.trans (x.fromLimits_inhibit ..), limits, limits, limits, limits, fun monitored => ?_,
    fun remote on => ?_, fun remote off => ?_⟩
  · rw [authority, monitored, if_neg (by decide)]
  · rw [authority, if_pos remote, on]
    cases x.authority with
    | none => rfl
    | some a => simp only [Option.map_some, Authority.afterSwitch_on, Option.some_inj]; split <;> rfl
  · rw [authority, if_pos remote, off]
    cases x.authority with
    | none => rfl
    | some a => rw [Option.map_some, Authority.afterSwitch_off]; rfl

end Sys2Proof.Machine

/-! ## Obligation O43: RELEASE_HOLD (R81) -/

namespace Sys2Proof.Machine

/-- In CONFIGURE RELEASE_HOLD is refused with MODE. -/
theorem State.releaseHold_configure {s : State} (h : s.crl.mode = .configure) :
    s.releaseHoldRequest = refuse s .mode := by
  simp [State.releaseHoldRequest, State.inConfigure, h]

/-- Outside CONFIGURE RELEASE_HOLD clears the hold and writes nothing else. -/
theorem State.releaseHold_service {s : State} (h : s.crl.mode ≠ .configure) :
    s.releaseHoldRequest = (s.withVou { s.vou with hold := false }, .ok, .empty) := by
  simp [State.releaseHoldRequest, State.inConfigure, h]

/-- Settles O43: the two cases of R81, by the mode. -/
theorem releaseHoldClearsTheHold : Obligations.ReleaseHoldClearsTheHold := by
  unfold Obligations.ReleaseHoldClearsTheHold
  intro s s₀ tag takes
  have answers {t : State} {code : ResultCode} (hr : s₀.releaseHoldRequest = (t, code, .empty)) :
      exec (.releaseHold tag []) s = .next (t.answered 0x45#8 tag code .empty) :=
    exec_answers (ws := []) (ns := []) (fun _ => State.releaseHoldRequest) rfl takes (by decide) rfl trivial hr
  exact ⟨fun service => answers (State.releaseHold_service service),
    fun configure => answers (State.releaseHold_configure configure)⟩

end Sys2Proof.Machine

/-! ## Obligation O51: ATTEND, MADE_SAFE, CLOSE_INCIDENT and FLOOR (R110 to R113, R120 to R122) -/

namespace Sys2Proof.Machine

/-! ### The grade of an incident (R110) -/

theorem Grade.rank_injective : Function.Injective Grade.rank := by
  rintro (_ | _ | _) (_ | _ | _) ⟨⟩ <;> rfl

theorem Grade.highest_rank (a b : Grade) : (a.highest b).rank = min a.rank b.rank := by
  unfold Grade.highest
  split <;> omega

theorem Grade.highest_eq_or (a b : Grade) : a.highest b = a ∨ a.highest b = b := by
  unfold Grade.highest
  split
  · exact .inl rfl
  · exact .inr rfl

/-- The most urgent of some grades is one of them. -/
theorem Grade.foldl_highest_mem (g : Grade) (l : List Grade) : l.foldl Grade.highest g ∈ g :: l := by
  induction l generalizing g with
  | nil => exact List.mem_singleton.2 rfl
  | cons a l ih =>
    rcases List.mem_cons.1 (ih (g.highest a)) with first | later
    · rw [List.foldl_cons, first]
      rcases g.highest_eq_or a with h | h <;> simp [h]
    · exact List.mem_cons_of_mem _ (List.mem_cons_of_mem _ later)

/-- The most urgent of some grades is as urgent as each of them. -/
theorem Grade.foldl_highest_le (g : Grade) (l : List Grade) :
    ∀ a ∈ g :: l, (l.foldl Grade.highest g).rank ≤ a.rank := by
  induction l generalizing g with
  | nil => simp
  | cons b l ih =>
    have top := ih (g.highest b) _ (List.mem_cons_self ..)
    rw [Grade.highest_rank] at top
    rintro a (_ | ⟨_, _ | ⟨_, later⟩⟩)
    · exact top.trans (Nat.min_le_left ..)
    · exact top.trans (Nat.min_le_right ..)
    · exact ih _ a (List.mem_cons_of_mem _ later)

/-- The grades that count for an incident: its floor's and its calls' (R110). -/
def Incident.grades (i : Incident) : List Grade := i.floor.toList ++ i.calls.map (·.kind.grade)

/-- An incident with another floor. -/
def Incident.floored (i : Incident) (f : Option Grade) : Incident := { i with floor := f }

section
variable (i : Incident)

@[simp] theorem Incident.floored_serial (f : Option Grade) : (i.floored f).serial = i.serial := rfl
@[simp] theorem Incident.floored_floor (f : Option Grade) : (i.floored f).floor = f := rfl
@[simp] theorem Incident.floored_calls (f : Option Grade) : (i.floored f).calls = i.calls := rfl

theorem Incident.grades_eq_nil : i.grades = [] ↔ i.floor = none ∧ i.calls = [] := by
  simp [Incident.grades]

theorem Incident.mem_grades (g : Grade) : g ∈ i.grades ↔ i.floor = some g ∨ ∃ c ∈ i.calls, c.kind.grade = g := by
  simp [Incident.grades]

theorem Incident.computedGrade_nil (h : i.grades = []) : i.computedGrade = .p1 := by
  rw [Incident.grades] at h
  simp only [Incident.computedGrade, h]

theorem Incident.computedGrade_cons {g : Grade} {l : List Grade} (h : i.grades = g :: l) :
    i.computedGrade = l.foldl Grade.highest g := by
  rw [Incident.grades] at h
  simp only [Incident.computedGrade, h]

theorem Incident.computedGrade_mem (h : i.grades ≠ []) : i.computedGrade ∈ i.grades := by
  obtain ⟨g, l, hl⟩ := List.exists_cons_of_ne_nil h
  rw [i.computedGrade_cons hl, hl]
  exact Grade.foldl_highest_mem g l

theorem Incident.computedGrade_le {g : Grade} (h : g ∈ i.grades) : i.computedGrade.rank ≤ g.rank := by
  obtain ⟨a, l, hl⟩ := List.exists_cons_of_ne_nil (List.ne_nil_of_mem h)
  rw [i.computedGrade_cons hl]
  rw [hl] at h
  exact Grade.foldl_highest_le a l g h

end

/-! ### The record of one serial in the table -/

/-- The incident `i` is open between `before` and `after`, and no other holds its serial (R102). -/
structure State.Places (s : State) (before : List Incident) (i : Incident) (after : List Incident) : Prop where
  incidents : s.it.incidents = before ++ i :: after
  alone : ∀ j ∈ before ++ after, j.serial ≠ i.serial

/-- The state `t` has the record `y` between `before` and `after`, and the pressure, order and outage blocks of `s`. -/
structure State.Rewrites (s t : State) (before : List Incident) (y : Incident) (after : List Incident) : Prop where
  it : t.it = { s.it with incidents := before ++ y :: after }
  pe : t.pe = s.pe
  vou : t.vou = s.vou
  ou : t.ou = s.ou

section
variable {s t u : State} {before after : List Incident} {i x y : Incident}

theorem State.places_of_nodup (h : s.it.incidents = before ++ i :: after)
    (distinct : (s.it.incidents.map (·.serial)).Nodup) : s.Places before i after := by
  refine ⟨h, fun j hj same => ?_⟩
  rw [h, List.map_append, List.map_cons, List.nodup_middle, List.nodup_cons, ← List.map_append] at distinct
  exact distinct.1 (same ▸ List.mem_map_of_mem hj)

theorem State.Places.incident (h : s.Places before i after) : s.incident i.serial = some i := by
  have others : before.find? (fun j => j.serial == i.serial) = none := by
    simpa using fun j hj => h.alone j (List.mem_append_left _ hj)
  simp [State.incident, h.incidents, List.find?_append, others]

theorem State.Places.rewrites (h : s.Places before i after) : s.Rewrites s before i after :=
  ⟨by rw [← h.incidents], rfl, rfl, rfl⟩

/-- A write under the serial replaces the one record that holds it. -/
theorem State.Places.setIncident (h : s.Places before i after) (y : Incident) (same : y.serial = i.serial) :
    s.Rewrites (s.setIncident y) before y after := by
  have keeps {l : List Incident} (sub : l ⊆ before ++ after) :
      (l.map fun j => if j.serial = y.serial then y else j) = l := by
    refine (List.map_congr_left fun j hj => if_neg ?_).trans (List.map_id' l)
    rw [same]
    exact h.alone j (sub hj)
  refine ⟨?_, rfl, rfl, rfl⟩
  rw [State.setIncident, State.withIt_it, h.incidents, List.map_append, List.map_cons, if_pos same.symm,
    keeps (List.subset_append_left ..), keeps (List.subset_append_right ..)]

theorem State.Rewrites.places (h : s.Rewrites t before y after) (hs : s.Places before i after)
    (same : y.serial = i.serial) : t.Places before y after :=
  ⟨by rw [h.it], same ▸ hs.alone⟩

theorem State.Rewrites.trans (h : s.Rewrites t before x after) (h' : t.Rewrites u before y after) :
    s.Rewrites u before y after :=
  ⟨by rw [h'.it, h.it], h'.pe.trans h.pe, h'.vou.trans h.vou, h'.ou.trans h.ou⟩

/-- What writes none of the four blocks has rewritten no more. -/
theorem State.Rewrites.congr (h : s.Rewrites t before y after) (it : u.it = t.it) (pe : u.pe = t.pe)
    (vou : u.vou = t.vou) (ou : u.ou = t.ou) : s.Rewrites u before y after :=
  ⟨it.trans h.it, pe.trans h.pe, vou.trans h.vou, ou.trans h.ou⟩

end

/-! ### Automatic plans (R123, R136) -/

section
variable (s : State)

theorem State.chooseJob_writes : ∃ e, s.chooseJob = s.withMe e := by
  unfold State.chooseJob
  repeat' split
  all_goals exact ⟨_, rfl⟩

theorem State.enqueueSearch_writes (c : Nat) : ∃ e, s.enqueueSearch c = s.withMe e := by
  unfold State.enqueueSearch
  dsimp only
  split
  · exact (s.withMe _).chooseJob_writes
  · exact ⟨_, rfl⟩

/-- A search request writes the engine only. -/
theorem State.requestSearch_writes (c : Nat) : ∃ e, s.requestSearch c = s.withMe e := by
  unfold State.requestSearch
  repeat' split
  · exact ⟨_, rfl⟩
  · exact s.enqueueSearch_writes c
  · exact s.enqueueSearch_writes c

/-- A FREE context that changes state has no entry on the waiting list to drop. -/
theorem State.enter_of_free {c : Nat} (free : (s.context c).state = .free) (new : ContextState)
    (f : Context → Context) (breached : Option Nat) : ∃ u q, s.enter c new f breached = (s.withIu u).withNq q := by
  simp only [State.enter, State.dropWaiting, free]
  exact ⟨_, _, rfl⟩

theorem State.freeContextIndex_free {c : Nat} (h : s.freeContextIndex = some c) : (s.context c).state = .free := by
  simpa using List.find?_some h

end

section
variable {s : State} {before after : List Incident} {i : Incident}

/-- A plan taken for an incident links the incident, and writes the isolation and engine blocks beside it (R135). -/
theorem State.takePlan_rewrites (h : s.Places before i after) {c : Nat} (free : (s.context c).state = .free)
    (seeds : List Nat) (remoteOnly automatic : Bool) :
    ∃ link, s.Rewrites (s.takePlan c i.serial seeds remoteOnly automatic) before { i with context := link } after := by
  simp only [State.takePlan]
  obtain ⟨u, q, entered⟩ := s.enter_of_free free .searching _ none
  obtain ⟨e, searching⟩ := ((s.withIu u).withNq q).requestSearch_writes c
  rw [entered, searching]
  have planned : s.Rewrites (((s.withIu u).withNq q).withMe e) before i after := h.rewrites.congr rfl rfl rfl rfl
  have there := planned.places h rfl
  split
  · exact ⟨i.context, planned⟩
  · simp only [State.linkIncident, there.incident]
    exact ⟨some c, planned.trans (there.setIncident _ rfl)⟩

theorem State.autoPlan_rewrites (h : s.Places before i after) (seg : Nat) :
    ∃ link, s.Rewrites (s.autoPlan i.serial seg) before { i with context := link } after := by
  have failed (reason) : ∃ link, s.Rewrites (s.post .safety (.planFailed none i.serial reason)) before
      { i with context := link } after := ⟨i.context, h.rewrites.congr rfl rfl rfl rfl⟩
  unfold State.autoPlan
  split
  · exact failed _
  · split
    · exact failed _
    · split
      · exact failed _
      · next c found => exact State.takePlan_rewrites h (s.freeContextIndex_free found) _ _ _

/-- Judging the auto-plan condition can link the incident where it has no context yet (R123). -/
theorem State.judgeAutoPlan_rewrites (h : s.Places before i after) :
    ∃ link, s.Rewrites (s.judgeAutoPlan i.serial) before { i with context := link } after
      ∧ (i.context ≠ none → link = i.context) := by
  simp only [State.judgeAutoPlan, h.incident]
  split
  · exact ⟨i.context, h.rewrites, fun _ => rfl⟩
  · next seg _ =>
    split
    · next holds =>
      obtain ⟨link, written⟩ := State.autoPlan_rewrites h seg
      refine ⟨link, written, fun linked => absurd ?_ linked⟩
      simp only [State.autoPlanHolds, Bool.and_eq_true, Option.isNone_iff_eq_none] at holds
      exact holds.1.2
    · exact ⟨i.context, h.rewrites, fun _ => rfl⟩

/-! ### A grade recomputed (R110 to R112) -/

section
variable {t : State} (h : s.Rewrites t before i after)
include h

theorem State.Rewrites.post (c : NoticeClass) (body : NoticeBody) : s.Rewrites (t.post c body) before i after :=
  h.congr rfl rfl rfl rfl

theorem State.Rewrites.adjustDeadline (slot : Nat) (p : GradeParams) :
    s.Rewrites (t.adjustDeadline slot p) before i after := by
  unfold State.adjustDeadline
  repeat' split
  all_goals exact h.congr rfl rfl rfl rfl

end

/-- An upgrade raises the grade and takes over its mask width, and can link the incident (R111). -/
theorem State.upgrade_rewrites (h : s.Places before i after) (g : Grade) (cause : UpgradeCause) :
    ∃ link, s.Rewrites (s.upgrade i g cause) before
        { i with grade := g, maskWidth := (s.it.params.of g).maskWidth, context := link } after
      ∧ (i.context ≠ none → link = i.context) := by
  have raised := h.setIncident { i with grade := g, maskWidth := (s.it.params.of g).maskWidth } rfl
  have posted (body : NoticeBody) := (raised.adjustDeadline i.slot (s.it.params.of g)).post g.noticeClass body
  obtain ⟨link, judged, kept⟩ := State.judgeAutoPlan_rewrites ((posted _).places h rfl)
  exact ⟨link, (posted _).trans judged, kept⟩

/-- An incident with the grade that its floor and calls give it, and the mask width of an upgrade (R110, R111). -/
def Incident.regraded (i : Incident) (params : GradeTable) (link : Option Nat) : Incident :=
  { i with
    grade := i.computedGrade
    context := link
    maskWidth := if i.computedGrade.rank < i.grade.rank then (params.of i.computedGrade).maskWidth else i.maskWidth }

@[simp] theorem Incident.regraded_serial (params : GradeTable) (link : Option Nat) :
    (i.regraded params link).serial = i.serial := rfl

theorem State.recomputeGrade_same (h : s.Places before i after) (same : i.computedGrade = i.grade)
    (cause : UpgradeCause) : s.recomputeGrade i.serial cause = s := by
  simp [State.recomputeGrade, h.incident, same]

/-- A recomputed grade stands in its record; only an upgrade can link the incident, and only one without a context. -/
theorem State.recomputeGrade_rewrites (h : s.Places before i after) (cause : UpgradeCause) :
    ∃ link, s.Rewrites (s.recomputeGrade i.serial cause) before (i.regraded s.it.params link) after
      ∧ (i.grade.rank ≤ i.computedGrade.rank ∨ i.context ≠ none → link = i.context) := by
  rcases Nat.lt_trichotomy i.computedGrade.rank i.grade.rank with up | same | down
  · obtain ⟨link, written, kept⟩ := State.upgrade_rewrites h i.computedGrade cause
    refine ⟨link, ?_, fun no => kept (no.resolve_left up.not_ge)⟩
    simp only [State.recomputeGrade, h.incident, Incident.regraded, if_pos up]
    exact written
  · refine ⟨i.context, ?_, fun _ => rfl⟩
    rw [State.recomputeGrade_same h (Grade.rank_injective same), Incident.regraded, if_neg same.not_lt,
      Grade.rank_injective same]
    exact h.rewrites
  · refine ⟨i.context, ?_, fun _ => rfl⟩
    simp only [State.recomputeGrade, h.incident, Incident.regraded, if_neg down.not_gt, if_pos down]
    exact (h.setIncident { i with grade := i.computedGrade } rfl).congr rfl rfl rfl rfl

end

/-! ### The answers of the requests that name an incident -/

section
variable {s : State} {serial : Nat}

theorem State.withSerial_zero (h : serial = 0) (f : Incident → Answered) : s.withSerial serial f = refuse s .range :=
  if_pos h

section
variable (h : serial ≠ 0)
include h

theorem State.withSerial_none (hi : s.incident serial = none) (f : Incident → Answered) :
    s.withSerial serial f = refuse s .notFound := by
  simp [State.withSerial, h, hi]

variable {i : Incident} (hi : s.incident serial = some i)
include hi

theorem State.withSerial_some (f : Incident → Answered) : s.withSerial serial f = f i := by
  simp [State.withSerial, h, hi]

theorem State.attend_refused (state : i.state ≠ .opened) : s.attendRequest serial = refuse s .state := by
  rw [State.attendRequest, State.withSerial_some h hi]
  split
  · contradiction
  · rfl

theorem State.attend_opened (state : i.state = .opened) :
    s.attendRequest serial = ((s.setIncident { i with state := .attended }).stopChannel i.slot, .ok, .empty) := by
  simp only [State.attendRequest, State.withSerial_some h hi, state]

theorem State.madeSafe_refused (state : i.state = .madeSafe) : s.madeSafeRequest serial = refuse s .state := by
  simp only [State.madeSafeRequest, State.withSerial_some h hi, state]

theorem State.madeSafe_moves (state : i.state ≠ .madeSafe) :
    s.madeSafeRequest serial = ((s.setIncident { i with state := .madeSafe }).stopChannel i.slot, .ok, .empty) := by
  rw [State.madeSafeRequest, State.withSerial_some h hi]
  split
  · contradiction
  · rfl

theorem State.closeIncident_refused (linked : i.context ≠ none) :
    s.closeIncidentRequest serial = refuse s .state := by
  rw [State.closeIncidentRequest, State.withSerial_some h hi, if_pos (Option.isSome_iff_ne_none.2 linked)]

/-- An incident without a context leaves the table, its channel stopped and INCIDENT_CLOSED posted (R122). -/
theorem State.closeIncident_discards (unlinked : i.context = none) :
    s.closeIncidentRequest serial
      = (((s.stopChannel i.slot).post .operations (.incidentClosed i.serial i.cls i.source i.state i.grade
          i.calls.length i.stage i.created)).withIt { s.it with
            incidents := s.it.incidents.filter fun j => j.serial != serial }, .ok, .empty) := by
  rw [State.closeIncidentRequest, State.withSerial_some h hi, if_neg (by simp [unlinked])]
  rfl

end

/-! ### FLOOR (R113) -/

theorem floorOf_eq_none {value : Nat} (h : value = 0 ∨ 4 < value) : floorOf value = none := by
  rcases h with rfl | above
  · rfl
  · obtain ⟨n, rfl⟩ := Nat.exists_eq_add_of_le' above
    rfl

theorem exists_floorOf {value : Nat} (low : 1 ≤ value) (high : value ≤ 4) : ∃ f, floorOf value = some f := by
  interval_cases value <;> exact ⟨_, rfl⟩

theorem floorOf_of_mem {value : Nat} {f : Option Grade}
    (h : (value, f) ∈ [(1, some Grade.p1), (2, some .p2), (3, some .p3), (4, none)]) : floorOf value = some f := by
  simp only [List.mem_cons, Prod.mk.injEq, List.not_mem_nil, or_false] at h
  rcases h with ⟨rfl, rfl⟩ | ⟨rfl, rfl⟩ | ⟨rfl, rfl⟩ | ⟨rfl, rfl⟩ <;> rfl

theorem State.floor_range {value : Nat} (h : serial = 0 ∨ value = 0 ∨ 4 < value) :
    s.floorRequest serial value = refuse s .range := by
  unfold State.floorRequest
  split
  · rfl
  · next some =>
    refine State.withSerial_zero (h.resolve_right fun outside => ?_) _
    rw [floorOf_eq_none outside] at some
    cases some

theorem State.floor_notFound {value : Nat} (h : serial ≠ 0) (low : 1 ≤ value) (high : value ≤ 4)
    (hi : s.incident serial = none) : s.floorRequest serial value = refuse s .notFound := by
  obtain ⟨f, hf⟩ := exists_floorOf low high
  simp only [State.floorRequest, hf, State.withSerial_none h hi]

/-- FLOOR writes the floor and has the grade recomputed; the answer is the grade that then stands (R113). -/
theorem State.floor_some (hn : serial ≠ 0) {i : Incident} (hi : s.incident serial = some i) {value : Nat}
    {f : Option Grade} (hf : floorOf value = some f) {t : State}
    (ht : (s.setIncident (i.floored f)).recomputeGrade serial .floor = t) :
    s.floorRequest serial value = (t, .ok, .grade (((t.incident serial).map (·.grade)).getD i.grade)) := by
  subst ht
  simp only [State.floorRequest, hf, State.withSerial_some hn hi]
  rfl

/-- The record that FLOOR leaves has the grade that the new floor and the calls give it. -/
theorem State.floor_regrades {before after : List Incident} {i : Incident} (h : s.Places before i after)
    (hn : i.serial ≠ 0) {value : Nat} {f : Option Grade} (hf : floorOf value = some f) :
    ∃ t link, s.floorRequest i.serial value = (t, .ok, .grade (i.floored f).computedGrade)
      ∧ s.Rewrites t before ((i.floored f).regraded s.it.params link) after
      ∧ (i.grade.rank ≤ (i.floored f).computedGrade.rank ∨ i.context ≠ none → link = i.context)
      ∧ ((i.floored f).computedGrade = i.grade → t.nq = s.nq ∧ t.tb = s.tb) := by
  have floored := h.setIncident (i.floored f) rfl
  have placed := floored.places h rfl
  obtain ⟨link, written, kept⟩ := State.recomputeGrade_rewrites placed .floor
  have regraded := floored.trans written
  have found := (regraded.places h rfl).incident
  refine ⟨_, link, ?_, regraded, kept, fun same => ?_⟩
  · rw [State.floor_some hn h.incident hf rfl]
    simp only [Incident.regraded_serial, Incident.floored_serial] at found
    rw [found]
    rfl
  · rw [State.recomputeGrade_same placed same]
    exact ⟨rfl, rfl⟩

end

/-- Settles O51: each request gets the answer said above for its refusals and its effect. -/
theorem incidentRequestsAreTaken : Obligations.IncidentRequestsAreTaken := by
  unfold Obligations.IncidentRequestsAreTaken
  intro s s₀ tag serial value hserial hvalue
  refine ⟨fun takes => ?attend, fun takes => ?madeSafe, fun takes => ?close, fun takes => ?floor⟩
  case attend =>
    have answers {t : State} {code : ResultCode} (hr : s₀.attendRequest serial = (t, code, .empty)) :
        exec (.attend tag (joinFields [2] [serial])) s = .next (t.answered 0x21#8 tag code .empty) :=
      exec_answers (oneField State.attendRequest) rfl takes (by decide) rfl ⟨hserial, trivial⟩ hr
    exact ⟨fun zero => answers (State.withSerial_zero zero _), fun h none => answers (State.withSerial_none h none _),
      fun i h hi => ⟨fun state => answers (State.attend_refused h hi state),
        fun state => answers (State.attend_opened h hi state)⟩⟩
  case madeSafe =>
    have answers {t : State} {code : ResultCode} (hr : s₀.madeSafeRequest serial = (t, code, .empty)) :
        exec (.madeSafe tag (joinFields [2] [serial])) s = .next (t.answered 0x22#8 tag code .empty) :=
      exec_answers (oneField State.madeSafeRequest) rfl takes (by decide) rfl ⟨hserial, trivial⟩ hr
    exact ⟨fun zero => answers (State.withSerial_zero zero _), fun h none => answers (State.withSerial_none h none _),
      fun i h hi => ⟨fun state => answers (State.madeSafe_refused h hi state),
        fun state => answers (State.madeSafe_moves h hi state)⟩⟩
  case close =>
    have answers {t : State} {code : ResultCode} (hr : s₀.closeIncidentRequest serial = (t, code, .empty)) :
        exec (.closeIncident tag (joinFields [2] [serial])) s = .next (t.answered 0x23#8 tag code .empty) :=
      exec_answers (oneField State.closeIncidentRequest) rfl takes (by decide) rfl ⟨hserial, trivial⟩ hr
    exact ⟨fun zero => answers (State.withSerial_zero zero _), fun h none => answers (State.withSerial_none h none _),
      fun i h hi => ⟨fun linked => answers (State.closeIncident_refused h hi linked),
        fun unlinked => answers (State.closeIncident_discards h hi unlinked)⟩⟩
  case floor =>
    have answers {t : State} {code : ResultCode} {contents : ReplyBody}
        (hr : s₀.floorRequest serial value = (t, code, contents)) :
        exec (.floor tag (joinFields [2, 1] [serial, value])) s = .next (t.answered 0x24#8 tag code contents) :=
      exec_answers floorFields rfl takes (by decide) rfl ⟨hserial, hvalue, trivial⟩ hr
    refine ⟨fun outside => answers (State.floor_range outside),
      fun h low high none => answers (State.floor_notFound h low high none), ?_⟩
    rintro before i after f hn incidents rfl distinct listed
    obtain ⟨t, link, hr, ⟨it, pe, vou, ou⟩, kept, same⟩ :=
      State.floor_regrades (State.places_of_nodup incidents distinct) hn (floorOf_of_mem listed)
    have reach : Reach false s₀ t := by
      have := Reach.floorRequest i.serial value (Reach.refl (lines := false) (s := s₀))
      rwa [hr] at this
    have mem := Incident.mem_grades (i.floored f)
    refine ⟨t, _, answers hr, it, rfl, fun c hc => ?_, fun g hg => ?_, fun calls floor => ?_, fun given => ?_, same,
      kept, reach.keeps_ms, reach.keeps_flc, pe, vou, ou, reach.keeps_crl, reach.keeps_time, reach.keeps_pending⟩
    · exact Incident.computedGrade_le _ ((mem _).2 (.inr ⟨c, hc, rfl⟩))
    · exact Incident.computedGrade_le _ ((mem _).2 (.inl hg))
    · exact Incident.computedGrade_nil _ ((Incident.grades_eq_nil _).2 ⟨floor, calls⟩)
    · refine (mem _).1 (Incident.computedGrade_mem _ fun empty => ?_)
      obtain ⟨floor, calls⟩ := (Incident.grades_eq_nil _).1 empty
      exact given.elim (· calls) (· floor)

end Sys2Proof.Machine

/-! ## Obligation O54: the flags of CONFIRMED (R148)

A context holds UNVERIFIED or OPERATOR_CONFIRMED only in CONFIRMED. Every operation keeps this of every context, so no
step leaves CONFIRMED with a flag set. -/

namespace Sys2Proof.Machine

/-! ### Operations that leave the contexts as they are -/

section
variable (s : State)

/-! The Model Engine -/

@[simp] theorem State.setEngine_iu (e : EngineState) : (s.setEngine e).iu = s.iu := rfl

@[simp] theorem State.chooseJob_iu : s.chooseJob.iu = s.iu := by
  obtain ⟨e, h⟩ := s.chooseJob_writes
  rw [h, State.withMe_iu]

@[simp] theorem State.requestSearch_iu (c : Nat) : (s.requestSearch c).iu = s.iu := by
  obtain ⟨e, h⟩ := s.requestSearch_writes c
  rw [h, State.withMe_iu]

@[simp] theorem State.requestTrace_iu : s.requestTrace.iu = s.iu := by
  unfold State.requestTrace; split <;> simp

@[simp] theorem State.withdrawSearch_iu (c : Nat) : (s.withdrawSearch c).iu = s.iu := by
  unfold State.withdrawSearch; dsimp only; repeat' split
  all_goals simp

@[simp] theorem State.engineValveChange_iu (v : Nat) (old new : ValveLive) :
    (s.engineValveChange v old new).iu = s.iu := by
  unfold State.engineValveChange; dsimp only; repeat' split
  all_goals simp

@[simp] theorem State.startEngine_iu : s.startEngine.iu = s.iu := by simp [State.startEngine]

@[simp] theorem State.stepSearch_iu : s.stepSearch.iu = s.iu := by
  unfold State.stepSearch; repeat' split
  all_goals simp

@[simp] theorem State.endZone_iu : s.endZone.iu = s.iu := by
  unfold State.endZone; repeat' split
  all_goals simp

/-! The Outage Unit -/

@[simp] theorem State.bringRecord_iu (n : Nat) : (s.bringRecord n).iu = s.iu := rfl

@[simp] theorem State.setOutageRef_iu (seg n : Nat) : (s.setOutageRef seg n).iu = s.iu := by
  unfold State.setOutageRef; split <;> rfl

@[simp] theorem State.joinRecord_iu (n seg : Nat) (cause : OutageCause) : (s.joinRecord n seg cause).iu = s.iu := by
  simp [State.joinRecord]

@[simp] theorem State.absorbRecord_iu (survivor a : Nat) : (s.absorbRecord survivor a).iu = s.iu := by
  simp [State.absorbRecord, State.freeRecord, foldl_keeps (·.iu)]

@[simp] theorem State.openRecord_iu (n seg : Nat) (cause : OutageCause) : (s.openRecord n seg cause).iu = s.iu := by
  simp [State.openRecord]

@[simp] theorem State.takeRecord_iu (seg : Nat) (cause : OutageCause) : (s.takeRecord seg cause).iu = s.iu := by
  unfold State.takeRecord; repeat' split
  all_goals simp

@[simp] theorem State.joinOutage_iu (seg : Nat) (cause : OutageCause) (member : Option Nat) :
    (s.joinOutage seg cause member).iu = s.iu := by
  unfold State.joinOutage; dsimp only; repeat' split
  all_goals simp [foldl_keeps (·.iu) State.bringRecord_iu, foldl_keeps (·.iu)]

@[simp] theorem State.postSegmentState_iu (seg : Nat) (old : ServiceState) :
    (s.postSegmentState seg old).iu = s.iu := by
  unfold State.postSegmentState; split <;> rfl

@[simp] theorem State.moveService_iu (seg : Nat) (x : Service) (new : ServiceState) :
    (s.moveService seg x new).iu = s.iu := by
  unfold State.moveService; split <;> simp

@[simp] theorem State.judgeInService_iu (seg : Nat) (x : Service) : (s.judgeInService seg x).iu = s.iu := by
  unfold State.judgeInService; dsimp only; split <;> simp

@[simp] theorem State.recause_iu (seg : Nat) (x : Service) (cause : OutageCause) :
    (s.recause seg x cause).iu = s.iu := by
  unfold State.recause; split <;> rfl

@[simp] theorem State.judgeOff_iu (seg : Nat) (x : Service) : (s.judgeOff seg x).iu = s.iu := by
  unfold State.judgeOff; repeat' split
  all_goals simp

@[simp] theorem State.serviceInput_iu (seg : Nat) (f : Service → Service) : (s.serviceInput seg f).iu = s.iu := by
  unfold State.serviceInput State.judge; repeat' split
  all_goals simp

@[simp] theorem State.leaveZone_iu (zone : List Nat) : (s.leaveZone zone).iu = s.iu := by
  simp [State.leaveZone, State.deliverMember, foldl_keeps (·.iu)]

@[simp] theorem State.joinZone_iu (c : Nat) (segs : List Nat) : (s.joinZone c segs).iu = s.iu := by
  simp [State.joinZone, State.deliverMember, foldl_keeps (·.iu)]

@[simp] theorem State.endTrace_iu : s.endTrace.iu = s.iu := by
  have delivered (old : Table Bool) (t : State) (e : Nat × Bool) : (State.deliverFedChange old t e).iu = t.iu := by
    unfold State.deliverFedChange; split
    · rfl
    · exact t.serviceInput_iu _ _
  unfold State.endTrace; split
  · simp [State.completeTrace, foldl_keeps (·.iu) (delivered _)]
  · rfl

@[simp] theorem State.outageReminder_iu (n : Nat) : (s.outageReminder n).iu = s.iu := by
  unfold State.outageReminder; split <;> rfl

@[simp] theorem State.relightDone_iu (seg : Nat) : (s.relightDone seg).1.iu = s.iu := by
  have closed (t : State) (n : Nat) : (t.closeRecord n).iu = t.iu := by simp [State.closeRecord]
  have relit (n : Nat) (x : Service) : (s.relightSegment seg n x).iu = s.iu := by
    simp [State.relightSegment, apply_ite State.iu, closed]
  unfold State.relightDone; repeat' split
  all_goals simp [refuse, relit]

@[simp] theorem State.discardOutage_iu (n : Nat) : (s.discardOutage n).1.iu = s.iu := by
  unfold State.discardOutage; repeat' split
  all_goals rfl

@[simp] theorem State.readOutage_iu (n : Nat) : (s.readOutage n).1.iu = s.iu := by
  unfold State.readOutage; dsimp only; repeat' split
  all_goals rfl

@[simp] theorem State.stopService_iu : s.stopService.iu = s.iu := by
  have discarded (t : State) (n : Nat) : (t.discardActive n).iu = t.iu := by
    unfold State.discardActive; split <;> rfl
  simp [State.stopService, foldl_keeps (·.iu) discarded]

/-! The Valve and Order Unit -/

@[simp] theorem State.postUnslotted_iu (c v : Nat) (a : Action) (o : OrderOutcome) :
    (s.postUnslotted c v a o).iu = s.iu := rfl

@[simp] theorem State.takeSlot_iu (k v : Nat) (a : Action) (priority : Nat) (origin : Origin) (oneShot : Bool) :
    (s.takeSlot k v a priority origin oneShot).iu = s.iu := rfl

@[simp] theorem State.contextRequest_iu (c v : Nat) (a : Action) : (s.contextRequest c v a).1.iu = s.iu := by
  unfold State.contextRequest State.endRequest; repeat' split
  all_goals simp

@[simp] theorem State.dropWaiting_iu (c : Nat) (old : ContextState) : (s.dropWaiting c old).iu = s.iu := by
  unfold State.dropWaiting; split <;> rfl

@[simp] theorem State.postIsolation_iu (c : Nat) (old : ContextState) (breached : Option Nat) :
    (s.postIsolation c old breached).iu = s.iu := rfl

@[simp] theorem State.postValveState_iu (v : Nat) (old new : ValveLive) (cause : ValveCause) :
    (s.postValveState v old new cause).iu = s.iu := by
  unfold State.postValveState; split <;> rfl

@[simp] theorem State.postAuthority_iu (v : Nat) (old new : ValveLive) (cause : AuthorityCause) :
    (s.postAuthority v old new cause).iu = s.iu := by
  unfold State.postAuthority; repeat' split
  all_goals rfl

@[simp] theorem State.modSlot_iu (k : Nat) (f : Order → Order) : (s.modSlot k f).iu = s.iu := rfl

@[simp] theorem State.hostOrder_iu (v : Nat) (action : Option Action) (priority oneShot : Nat) :
    (s.hostOrder v action priority oneShot).1.iu = s.iu := by
  unfold State.hostOrder State.takeHostOrder; repeat' split
  all_goals rfl

@[simp] theorem State.releaseHoldRequest_iu : s.releaseHoldRequest.1.iu = s.iu := by
  unfold State.releaseHoldRequest; split <;> rfl

/-! The Incident Table -/

@[simp] theorem State.linkIncident_iu (serial : Nat) (c : Option Nat) : (s.linkIncident serial c).iu = s.iu := by
  unfold State.linkIncident; split <;> rfl

@[simp] theorem State.startChannelOnce_iu (n d : Nat) (m : TimerMode) (g : Bool) :
    (s.startChannelOnce n d m g).1.iu = s.iu := by
  unfold State.startChannelOnce; split <;> rfl

@[simp] theorem State.adjustDeadline_iu (slot : Nat) (p : GradeParams) : (s.adjustDeadline slot p).iu = s.iu := by
  unfold State.adjustDeadline; repeat' split
  all_goals rfl

@[simp] theorem State.incidentExpiry_iu (slot : Nat) : (s.incidentExpiry slot).iu = s.iu := by
  unfold State.incidentExpiry; dsimp only; repeat' split
  all_goals rfl

@[simp] theorem State.withSerial_iu {serial : Nat} {f : Incident → Answered} (h : ∀ i, (f i).1.iu = s.iu) :
    (s.withSerial serial f).1.iu = s.iu := by
  unfold State.withSerial; repeat' split
  · rfl
  · rfl
  · exact h _

@[simp] theorem State.attendRequest_iu (serial : Nat) : (s.attendRequest serial).1.iu = s.iu :=
  s.withSerial_iu fun i => by split <;> rfl

@[simp] theorem State.madeSafeRequest_iu (serial : Nat) : (s.madeSafeRequest serial).1.iu = s.iu :=
  s.withSerial_iu fun i => by split <;> rfl

@[simp] theorem State.closeIncidentRequest_iu (serial : Nat) : (s.closeIncidentRequest serial).1.iu = s.iu :=
  s.withSerial_iu fun i => by split <;> rfl

@[simp] theorem State.readIncident_iu (serial : Nat) : (s.readIncident serial).1.iu = s.iu :=
  s.withSerial_iu fun _ => rfl

/-! The Pressure Evaluator -/

@[simp] theorem State.setPoint_iu (p : Nat) (x : PointLive) : (s.setPoint p x).iu = s.iu := rfl

@[simp] theorem State.postZone_iu (p seg : Nat) (old : Zone) (x : PointLive) : (s.postZone p seg old x).iu = s.iu := by
  unfold State.postZone; repeat' split
  all_goals rfl

@[simp] theorem State.postPoint_iu (p seg : Nat) (old new : PointState) (cause : PointCause) (f : Option Nat)
    (zone : Option Zone) : (s.postPoint p seg old new cause f zone).iu = s.iu := by
  unfold State.postPoint; split <;> rfl

@[simp] theorem State.deriveFor_iu (points : List Nat) : (s.deriveFor points).iu = s.iu := by
  have derived (t : State) (seg : Nat) : (t.deriveCondition seg).iu = t.iu := by
    unfold State.deriveCondition State.deliverCondition; dsimp only; repeat' split
    all_goals simp
  exact foldl_keeps (·.iu) derived _ s

/-! The Field Line Controllers -/

@[simp] theorem State.count_iu (st : Nat) (n : StatName) : (s.count st n).iu = s.iu := by
  unfold State.count; dsimp only; split <;> rfl

@[simp] theorem State.sendOrder_iu (line st k : Nat) : (s.sendOrder line st k).iu = s.iu := by simp [State.sendOrder]

@[simp] theorem State.sendScan_iu (line : Nat) : (s.sendScan line).iu = s.iu := by
  unfold State.sendScan; dsimp only; split <;> rfl

@[simp] theorem State.postHealth_iu (st : Nat) (old new : StationLive) : (s.postHealth st old new).iu = s.iu := by
  unfold State.postHealth; split <;> rfl

@[simp] theorem State.gateStation_iu (st : Nat) (g : Bool) : (s.gateStation st g).iu = s.iu :=
  foldl_keeps (·.iu) (fun t k => by repeat' split
                                    all_goals rfl) _ s

@[simp] theorem State.stationStats_iu (i clear : Nat) : (s.stationStats i clear).1.iu = s.iu := by
  unfold State.stationStats; repeat' split
  all_goals rfl

/-! Modes, parameters and the model -/

@[simp] theorem State.postMode_iu (m : Mode) : (s.postMode m).iu = s.iu := rfl
@[simp] theorem State.setMode_iu (m : Mode) : (s.setMode m).iu = s.iu := rfl

@[simp] theorem State.settleConfigure_iu : s.settleConfigure.iu = s.iu := by
  unfold State.settleConfigure; split
  · simp [State.enterConfigure, State.stopEngine, State.stopValves, State.stopPressure, State.stopLines]
  · rfl

theorem State.writeParameter_iu {t : State} {p : Parameter} {v : List Nat} (h : s.writeParameter p v = some t) :
    t.iu = s.iu := by
  cases p <;> simp only [State.writeParameter] at h
  case autoIncident | autoPlan | classOrder | classMask => obtain ⟨_, -, rfl⟩ := Option.map_eq_some_iff.1 h; rfl
  case baud | confirmDrop | ventThreshold | maskWidth => split at h <;> cases h; rfl
  all_goals cases h; rfl

@[simp] theorem State.setParameter_iu (p : Parameter) (v : List Nat) : (s.setParameter p v).1.iu = s.iu := by
  unfold State.setParameter; split
  · rfl
  · split
    · rfl
    · next written => exact s.writeParameter_iu written

@[simp] theorem State.setParamFields_iu (ns : List Nat) : (setParamFields ns s).1.iu = s.iu := by
  unfold setParamFields State.paramRequest; repeat' split
  all_goals simp [refuse]

@[simp] theorem State.load_iu {α : Type} (r : Option α) (store : α → ModelStore) : (s.load r store).1.iu = s.iu := by
  unfold State.load; repeat' split
  all_goals rfl

/-! The requests that read -/

@[simp] theorem State.readSegment_iu (n : Nat) : (s.readSegment n).1.iu = s.iu := by
  unfold State.readSegment; repeat' split
  all_goals rfl

@[simp] theorem State.readValve_iu (n : Nat) : (s.readValve n).1.iu = s.iu := by
  unfold State.readValve; repeat' split
  all_goals rfl

@[simp] theorem State.readPoint_iu (n : Nat) : (s.readPoint n).1.iu = s.iu := by
  unfold State.readPoint; repeat' split
  all_goals rfl

@[simp] theorem State.readStation_iu (n : Nat) : (s.readStation n).1.iu = s.iu := by
  unfold State.readStation; repeat' split
  all_goals rfl

@[simp] theorem State.readContext_iu (c : Nat) : (s.readContext c).1.iu = s.iu := by
  unfold State.readContext; split <;> rfl

end
end Sys2Proof.Machine

/-! ### The flags of one context (R148) -/

namespace Sys2Proof.Machine

/-- Neither UNVERIFIED nor OPERATOR_CONFIRMED is set. -/
def Context.Clear (x : Context) : Prop := x.unverified = false ∧ x.operatorConfirmed = false

/-- Outside CONFIRMED neither flag is set. -/
def Context.Settled (x : Context) : Prop := x.state ≠ .confirmed → x.Clear

/-- The same of context `c` of the unit. -/
def IsolationUnit.Settled (u : IsolationUnit) (c : Nat) : Prop := (u.contexts.getD c (.freeWith 0)).Settled

theorem State.settled_iff (s : State) (c : Nat) :
    s.iu.Settled c ↔ ((s.context c).state ≠ .confirmed → (s.context c).Clear) := .rfl

/-- Leaving a state clears the flags: they are clear already, or the state left is CONFIRMED. -/
theorem Context.Settled.clear_leave {x : Context} (h : x.Settled) : x.leave.Clear := by
  unfold Context.leave
  split
  · exact ⟨rfl, rfl⟩
  · next executing => exact h (by simp [executing])
  · next other _ => exact h other

theorem Context.settled_freeWith (n : Nat) : (Context.freeWith n).Settled := fun _ => ⟨rfl, rfl⟩

section
variable {s : State} {c d : Nat}

/-- A write of one context is judged by the record written, and a write of another one changes nothing here. -/
theorem State.setContext_settled {x : Context} (other : d ≠ c → s.iu.Settled c) (own : d = c → x.Settled) :
    (s.setContext d x).iu.Settled c := by
  show ((s.setContext d x).context c).Settled
  rw [State.setContext_context]
  by_cases same : d = c
  · by_cases inside : c < 8
    · rw [if_pos ⟨same, inside⟩]
      exact own same
    · rw [if_neg fun h => inside h.2, State.context, vector_getD, Vector.getElem?_eq_none (by omega)]
      exact Context.settled_freeWith 0
  · rw [if_neg fun h => same h.1]
    exact other same

/-! A context that becomes FREE has no flag, whatever it held. -/

theorem State.freeContext_settled (other : d ≠ c → s.iu.Settled c) : (s.freeContext d).iu.Settled c := by
  have modified {t : State} {f : Context → Context} (ne : d ≠ c) (h : t.iu.Settled c) :
      (t.modContext d f).iu.Settled c := State.setContext_settled (fun _ => h) fun same => absurd same ne
  unfold State.freeContext
  refine State.setContext_settled (fun ne => ?_) fun _ => Context.settled_freeWith _
  have h := other ne
  split <;> simp [modified ne, h]

end

namespace IsolationUnit.Settled

section
variable {s : State} {c d v : Nat} (h : s.iu.Settled c)
include h

/-- A change of the fields that are neither the state nor a flag. -/
theorem modFields {f : Context → Context} (state : ∀ x : Context, (f x).state = x.state := by exact fun _ => rfl)
    (clear : ∀ x : Context, x.Clear → (f x).Clear := by exact fun _ h => ⟨h.1, h.2⟩) :
    (s.modContext d f).iu.Settled c := by
  refine State.setContext_settled (fun _ => h) fun same out => ?_
  subst same
  exact clear _ (h (state _ ▸ out))

/-- A context enters a state, and no flag is set on the way. -/
theorem enter {new : ContextState} {f : Context → Context} {breached : Option Nat}
    (clear : ∀ x : Context, x.Clear → (f x).Clear := by exact fun _ h => ⟨h.1, h.2⟩) :
    (s.enter d new f breached).iu.Settled c := by
  unfold State.enter
  refine State.setContext_settled (fun _ => ?_) fun same _ => clear _ (Context.Settled.clear_leave (same ▸ h))
  rwa [State.dropWaiting_iu]

theorem enter_confirmed {f : Context → Context} {breached : Option Nat} :
    (s.enter d .confirmed f breached).iu.Settled c := by
  unfold State.enter
  refine State.setContext_settled (fun _ => ?_) fun _ out => absurd rfl out
  rwa [State.dropWaiting_iu]

/-- What every step of a fold keeps. -/
theorem foldl {α : Type} {f : State → α → State} (hf : ∀ t a, t.iu.Settled c → (f t a).iu.Settled c) (l : List α) :
    (l.foldl f s).iu.Settled c := by
  induction l generalizing s with
  | nil => exact h
  | cons a l ih => exact ih (hf s a h)

/-! #### Entries, closing and answers -/

@[simp] theorem setStatus {st : EntryStatus} : (s.setStatus d v st).iu.Settled c := h.modFields

@[simp] theorem modReopen {f : ReopenEntry → ReopenEntry} : (s.modReopen d v f).iu.Settled c := h.modFields

@[simp] theorem searchAgain : (s.searchAgain d).iu.Settled c := by
  rw [State.searchAgain, State.requestSearch_iu]
  exact h.enter

@[simp] theorem returnToPlanned : (s.returnToPlanned d).iu.Settled c := by
  unfold State.returnToPlanned; split
  · exact h.enter
  · exact h

@[simp] theorem failureRule : (s.failureRule d).iu.Settled c := by
  unfold State.failureRule; split
  · exact h.searchAgain
  · exact h.searchAgain
  · exact h

@[simp] theorem checkClosed : (s.checkClosed d).iu.Settled c := by
  unfold State.checkClosed State.enterClosedWait; dsimp only; split
  · exact enter (s := s.startChannel _ _ _ _) h fun _ _ => ⟨rfl, rfl⟩
  · exact h

@[simp] theorem checkDecayed : (s.checkDecayed d).iu.Settled c := by
  unfold State.checkDecayed; dsimp only; split
  · exact enter_confirmed (s := s.stopChannel _) h
  · exact h

@[simp] theorem dropDecay {p : Nat} : (s.dropDecay d p).iu.Settled c := h.modFields.checkDecayed

@[simp] theorem offerSample {p seg : Nat} {state : PointState} {f : Option Nat} :
    (s.offerSample d p state f seg).iu.Settled c := by
  unfold State.offerSample; repeat' split
  · exact h.modFields.checkDecayed
  · exact h.dropDecay
  · exact h
  · exact h

@[simp] theorem tellStale {p : Nat} : (s.tellStale d p).iu.Settled c := by
  unfold State.tellStale; split
  · exact h.dropDecay
  · exact h

@[simp] theorem contextExpiry : (s.contextExpiry d).iu.Settled c := by
  unfold State.contextExpiry; dsimp only; repeat' split
  · exact h.enter
  · exact h.enter_confirmed
  · exact h
  · exact h

@[simp] theorem requestClose : (s.requestClose d v).1.iu.Settled c := by simp [State.requestClose, h]

@[simp] theorem answerEffect {r : OrderReply} : (s.answerEffect d r).iu.Settled c := by
  unfold State.answerEffect; split <;> simp [h]

/-! #### Releasing -/

@[simp] theorem freeContext : (s.freeContext d).iu.Settled c := State.freeContext_settled fun _ => h

@[simp] theorem checkReleased : (s.checkReleased d).iu.Settled c := by
  unfold State.checkReleased; dsimp only; split
  · exact h.freeContext
  · exact h

@[simp] theorem routeReopen : (s.routeReopen d v).iu.Settled c := by
  unfold State.routeReopen State.requestOpen; repeat' split
  all_goals simp [h]

/-! #### Outcomes, grants and valve changes -/

@[simp] theorem boundaryOutcome {o : OrderOutcome} : (s.boundaryOutcome d v o).iu.Settled c := by
  have written := h.modFields (d := d) (f := fun x => x.setEntry v fun e =>
    { e with status := o.entryStatus e.status, byContext := e.byContext || o.accepted })
  unfold State.boundaryOutcome; dsimp only; repeat' split
  all_goals simp [written]

@[simp] theorem interiorOutcome {o : OrderOutcome} : (s.interiorOutcome d v o).iu.Settled c := by
  unfold State.interiorOutcome; split
  · exact h.modFields
  · exact h

@[simp] theorem heldOutcome : (s.heldOutcome d v).iu.Settled c := by
  unfold State.heldOutcome; dsimp only; split
  · exact h.routeReopen.checkReleased
  · exact h

@[simp] theorem deliverOutcome {a : Action} {o : OrderOutcome} : (s.deliverOutcome d v a o).iu.Settled c := by
  unfold State.deliverOutcome State.openOutcome State.closeOutcome; repeat' split
  all_goals simp [h]

@[simp] theorem deliverGrant {a : Action} : (s.deliverGrant d v a).iu.Settled c := by
  unfold State.deliverGrant; split
  · exact h.modReopen
  · exact h.setStatus

@[simp] theorem breach : (s.breach d v).iu.Settled c := enter (s := s.stopChannel _) h

@[simp] theorem boundaryOpened {e : BoundaryEntry} : (s.boundaryOpened d v e).iu.Settled c := by
  unfold State.boundaryOpened; dsimp only; repeat' split
  case h_4.isTrue.isTrue => exact h.setStatus.requestClose.answerEffect
  all_goals simp [h]

@[simp] theorem boundaryUpdate {p : Position} : (s.boundaryUpdate d v p).iu.Settled c := by
  unfold State.boundaryUpdate; repeat' split
  · exact h
  · exact h.modFields.checkClosed
  · exact h.boundaryOpened
  · exact h.boundaryOpened
  · unfold State.boundaryUnknown; repeat' split
    all_goals simp [h]

@[simp] theorem staleCheck {old new : ValveLive} : (s.staleCheck d v old new).iu.Settled c := by
  unfold State.staleCheck; dsimp only; repeat' split
  · exact h
  · exact h.searchAgain
  · exact h

@[simp] theorem reopened : (s.reopened d v).iu.Settled c := by
  unfold State.reopened; dsimp only; split
  · exact h.modReopen.checkReleased
  · exact h

@[simp] theorem isolationValveChange {old new : ValveLive} : (s.isolationValveChange v old new).iu.Settled c := by
  refine h.foldl (fun t d h => ?_) _
  unfold State.contextValveChange; dsimp only; repeat' split
  all_goals simp [h]

/-! #### Search results, plans and requests -/

@[simp] theorem takeResult {number : Nat} {r : SearchResult} : (s.takeResult d number r).iu.Settled c := by
  unfold State.takeResult; dsimp only; split
  · next searching =>
    have clear (same : d = c) : (s.context d).Clear := by
      subst same
      exact (s.settled_iff d).1 h (by simp [searching])
    have failed (reason : SearchFailure) : (s.planFails d reason).iu.Settled c :=
      State.setContext_settled (fun _ => h) fun same _ => clear same
    repeat' split
    · exact failed _
    · exact failed _
    · unfold State.writePlan; dsimp only
      rw [State.post_iu, State.joinZone_iu]
      exact State.setContext_settled (fun _ => h) fun same _ => clear same
  · exact h

@[simp] theorem takePlan {serial : Nat} {seeds : List Nat} {remoteOnly automatic : Bool} :
    (s.takePlan d serial seeds remoteOnly automatic).iu.Settled c := by
  unfold State.takePlan; dsimp only; split
  · rw [State.requestSearch_iu]
    exact h.enter
  · rw [State.linkIncident_iu, State.requestSearch_iu]
    exact h.enter

@[simp] theorem autoPlan {serial seg : Nat} : (s.autoPlan serial seg).iu.Settled c := by
  unfold State.autoPlan; repeat' split
  all_goals simp [h]

@[simp] theorem planRequest {serial remoteOnly : Nat} {seeds : List Nat} :
    (s.planRequest serial seeds remoteOnly).1.iu.Settled c := by
  unfold State.planRequest; repeat' split
  all_goals simp [refuse, h]

@[simp] theorem cancelRequest : (s.cancelRequest d).1.iu.Settled c := by
  unfold State.cancelRequest; dsimp only; repeat' split
  all_goals simp [refuse, h]

@[simp] theorem executeRequest : (s.executeRequest d).1.iu.Settled c := by
  have requested := h.enter (d := d) (new := .executing) (f := fun x => { x with executed := true }) (breached := none)
    |>.foldl fun t (e : BoundaryEntry) h => h.requestClose (d := d) (v := e.valve)
  unfold State.executeRequest State.settleExecution State.requestClosures; dsimp only; repeat' split
  all_goals simp [refuse, h, requested]

@[simp] theorem confirmRequest : (s.confirmRequest d).1.iu.Settled c := by
  unfold State.confirmRequest; repeat' split
  · exact h
  · exact h
  · exact h.enter_confirmed
  · exact h

@[simp] theorem extendRequest {bars seeds : List Nat} : (s.extendRequest d bars seeds).1.iu.Settled c := by
  have entered {f : Context → Context} (clear : ∀ x : Context, x.Clear → (f x).Clear) :=
    enter (s := s.stopChannel (Config.contextChannel + d)) h (d := d) (new := .searching) (breached := none) clear
  unfold State.extendRequest; dsimp only; repeat' split
  all_goals simp [refuse, h]
  exact entered fun _ => id

@[simp] theorem releaseRequest : (s.releaseRequest d).1.iu.Settled c := by
  have again : (s.routeAgain d).iu.Settled c := h.foldl (fun _ _ h => h.routeReopen) _
  have begun : (s.beginRelease d).iu.Settled c := by
    have entered : ((s.stopChannel (Config.contextChannel + d)).enter d .releasing id none).iu.Settled c :=
      enter (s := s.stopChannel _) h
    unfold State.beginRelease; dsimp only
    refine foldl ?_ (fun _ _ h => h.routeReopen) _
    exact entered.modFields
  unfold State.releaseRequest; dsimp only; repeat' split
  all_goals simp [refuse, h, again, begun]

end
end IsolationUnit.Settled
end Sys2Proof.Machine

/-! ### The operations of the other blocks -/

namespace Sys2Proof.Machine
namespace IsolationUnit.Settled

section
variable {s : State} {c d v k : Nat} (h : s.iu.Settled c)
include h

/-! #### Valves and orders -/

theorem writeValve {old new : ValveLive} : (s.writeValve v old new).iu.Settled c := by
  unfold State.writeValve; dsimp only; split
  · simp [h]
  · exact h

@[simp] theorem changeValve {cause : ValveCause} {f : ValveLive → ValveLive} :
    (s.changeValve v cause f).iu.Settled c := by
  unfold State.changeValve; split
  · exact h
  · rw [State.postValveState_iu]
    exact h.writeValve

@[simp] theorem changeAuthority {cause : AuthorityCause} {a : Authority} :
    (s.changeAuthority v cause a).iu.Settled c := by
  unfold State.changeAuthority; split
  · exact h
  · rw [State.postAuthority_iu]
    exact h.writeValve

omit h in
theorem offerSlot (fuel : Nat) (h : s.iu.Settled c) : (State.offerSlot k fuel s).iu.Settled c := by
  induction fuel generalizing s with
  | zero => exact h
  | succ fuel ih =>
    unfold State.offerSlot; dsimp only; repeat' split
    · exact deliverGrant (by exact h)
    · exact ih (deliverOutcome (by exact h))
    · exact h

@[simp] theorem endOrder {outcome : OrderOutcome} : (s.endOrder k outcome).iu.Settled c := by
  have returned {t : State} {o : Order} (h : t.iu.Settled c) : (t.returnRecall o outcome).iu.Settled c := by
    unfold State.returnRecall; split
    · exact h.changeAuthority
    · exact h
  have told {t : State} {o : Order} (h : t.iu.Settled c) : (t.tellOrigin o outcome).iu.Settled c := by
    unfold State.tellOrigin; split
    · exact h
    · exact h.deliverOutcome
  unfold State.endOrder; split
  · exact h
  · next o _ =>
    have freed := returned (t := (s.stopChannel (Config.orderChannel + k)).setValveSlot o.valve none) (o := o) h
    exact offerSlot _ (told (t := State.post _ _ _) freed)

@[simp] theorem endDone : (s.endDone k).iu.Settled c := by
  unfold State.endDone; dsimp only; repeat' split
  all_goals simp [h]

@[simp] theorem deliverReading {r : ValveReading} : (s.deliverReading r).iu.Settled c := by
  have target {t : State} (h : t.iu.Settled c) : (t.judgeTarget r.valve).iu.Settled c := by
    unfold State.judgeTarget; repeat' split
    all_goals simp [h]
  have switch {t : State} (h : t.iu.Settled c) : (t.judgeSwitch r.valve r.localSwitch).iu.Settled c := by
    unfold State.judgeSwitch; repeat' split
    all_goals simp [h]
  have moving {t : State} (h : t.iu.Settled c) : (t.judgeMoving r.valve r.localSwitch).iu.Settled c := by
    unfold State.judgeMoving; repeat' split
    all_goals simp [h]
  unfold State.deliverReading; dsimp only; repeat' split
  · exact h
  · exact h
  · exact h.changeValve
  · exact moving (switch (target h.changeValve))

@[simp] theorem loseValves {st : Nat} {own : Option Nat} : (s.loseValves st own).iu.Settled c := by
  refine foldl ?_ (fun t v h => ?_) _
  · unfold State.dropLostWaiting
    exact foldl (by exact h) (fun t e h => deliverOutcome (by exact h)) _
  · unfold State.loseValve; dsimp only; repeat' split
    all_goals simp [h]

@[simp] theorem judgeTransaction {r : TransactionResult} {health : Health} :
    (s.judgeTransaction k r health).iu.Settled c := by
  have accepted (o : Order) : (s.acceptOrder k o health).iu.Settled c := by
    have moving {t : State} (n : Nat) (h : t.iu.Settled c) : (t.startMoving k n health).iu.Settled c := h
    unfold State.acceptOrder; repeat' split
    all_goals simp [h, moving]
  have retried (o : Order) (busy : Bool) : (s.retryOrder k o busy).iu.Settled c := by
    unfold State.retryOrder; dsimp only; repeat' split
    case isFalse.isFalse.isFalse => exact h
    all_goals exact endOrder (by exact h)
  unfold State.judgeTransaction; dsimp only; repeat' split
  all_goals simp [h, accepted, retried]

@[simp] theorem orderExpiry : (s.orderExpiry k).iu.Settled c := by
  unfold State.orderExpiry; repeat' split
  all_goals simp [h]

@[simp] theorem valveEntryRequest {p : Nat} : (s.valveEntryRequest v p).1.iu.Settled c := by
  unfold State.valveEntryRequest; repeat' split
  all_goals simp [refuse, h]

@[simp] theorem inhibitRequest {i f : Nat} : (s.inhibitRequest v i f).1.iu.Settled c := by
  unfold State.inhibitRequest; dsimp only; repeat' split
  all_goals simp [refuse, h]

@[simp] theorem abortAndSettle : (s.abortAndSettle k).1.iu.Settled c := by
  rw [State.abortAndSettle, State.settleConfigure_iu]
  unfold State.abortRequest; repeat' split
  all_goals simp [refuse, h]

/-- The waiting list empties and the WAITING slots end, each outcome delivered to its context. -/
@[simp] theorem endWaiting {o : OrderOutcome} : (s.endWaiting o).iu.Settled c := by
  refine foldl ?_ (fun t k h => ?_) _
  · unfold State.endWaitingList
    exact foldl (by exact h) (fun t e h => deliverOutcome (by exact h)) _
  · unfold State.endIfWaiting; repeat' split
    all_goals simp [h]

@[simp] theorem holdRequest : s.holdRequest.1.iu.Settled c := by
  unfold State.holdRequest; split
  · exact h
  · refine foldl ?_ (fun t k h => by exact h) _
    exact endWaiting (by exact h)

/-! #### Incidents -/

@[simp] theorem judgeAutoPlan {serial : Nat} : (s.judgeAutoPlan serial).iu.Settled c := by
  unfold State.judgeAutoPlan; repeat' split
  all_goals simp [h]

@[simp] theorem recomputeGrade {serial : Nat} {cause : UpgradeCause} :
    (s.recomputeGrade serial cause).iu.Settled c := by
  unfold State.recomputeGrade State.upgrade; dsimp only; repeat' split
  all_goals simp [h]

@[simp] theorem createIncident {n : NewIncident} {slot : Nat} : (s.createIncident n slot).1.iu.Settled c := by
  unfold State.createIncident; dsimp only; split <;> simp [h]

@[simp] theorem callRequest {reference kind key presence seg : Nat} :
    (s.callRequest reference kind key presence seg).1.iu.Settled c := by
  have matched (call : CallRec) : (s.matchCall call).1.iu.Settled c := by
    have attached (i : Incident) : (s.attachCall i call).1.iu.Settled c := by
      have graded := recomputeGrade (s := s.setIncident (i.attach call)) h (serial := i.serial) (cause := .call)
      exact judgeAutoPlan (by exact graded)
    unfold State.matchCall State.openForCall; dsimp only; repeat' split
    · exact attached _
    · exact h
    · exact h.createIncident
  have counted (n : Nat) : (s.countNoGas n).iu.Settled c := h
  unfold State.callRequest State.takeCall; repeat' split
  all_goals simp [refuse, h, matched, counted]

@[simp] theorem floorRequest {serial value : Nat} : (s.floorRequest serial value).1.iu.Settled c := by
  unfold State.floorRequest State.withSerial; dsimp only; repeat' split
  · exact h
  · exact h
  · exact h
  · exact recomputeGrade (by exact h)

/-! #### Samples and staleness -/

@[simp] theorem sample {time : Time} {p raw : Nat} : (s.sample time p raw).iu.Settled c := by
  have offered {t : State} {seg : Nat} {x : PointLive} (h : t.iu.Settled c) : (t.offer p seg x).iu.Settled c := by
    unfold State.offer; split
    · exact h
    · exact h.offerSample
  have taken {t : State} {seg : Nat} (h : t.iu.Settled c) : (t.offerFall p seg).iu.Settled c := by
    unfold State.offerFall; repeat' split
    · exact h
    · exact h.createIncident
    · exact h
  have fell {t : State} {seg : Nat} {y x : PointLive} {rec : PointRec} (h : t.iu.Settled c) :
      (t.postFall p seg y x rec).iu.Settled c := by
    unfold State.postFall; repeat' split
    · exact taken (by exact h)
    · exact h
    · exact h
  unfold State.sample; dsimp only; repeat' split
  all_goals simp [h, offered, fell]

@[simp] theorem deliverSamples {time : Time} {l : List (Nat × Nat)} : (s.deliverSamples time l).iu.Settled c := by
  rw [State.deliverSamples, State.deriveFor_iu]
  exact h.foldl (fun _ _ h => h.sample) _

@[simp] theorem makeStale {cause : PointCause} {p : Nat} : (s.makeStale cause p).iu.Settled c := by
  unfold State.makeStale State.tellStaleOf; dsimp only; repeat' split
  all_goals simp [h]

@[simp] theorem cycleComplete {line : Nat} : (s.cycleComplete line).iu.Settled c := by
  rw [State.cycleComplete, State.deriveFor_iu]
  exact h.foldl (fun _ _ h => h.makeStale) _

@[simp] theorem losePoints {st : Nat} : (s.losePoints st).iu.Settled c := by
  rw [State.losePoints, State.deriveFor_iu]
  exact h.foldl (fun _ _ h => h.makeStale) _

/-! #### The field lines -/

@[simp] theorem chooseTransaction {line : Nat} : (s.chooseTransaction line).iu.Settled c := by
  have handed : ((List.range 12).foldl (fun s k => s.handBack line k) s).iu.Settled c := by
    refine h.foldl (fun t k h => ?_) _
    unfold State.handBack; repeat' split
    all_goals simp [h]
  unfold State.chooseTransaction State.chooseOrder; dsimp only; repeat' split
  all_goals simp [h, handed]

@[simp] theorem endPass {line : Nat} : (s.endPass line).iu.Settled c := by
  unfold State.endPass; dsimp only
  rw [State.setController_iu]
  exact cycleComplete (by exact h)

@[simp] theorem updateHealth {st : Nat} {good scan : Bool} {own : Option Nat} {order : DeliveryOrder} :
    (s.updateHealth st good scan own order).iu.Settled c := by
  have lost {t : State} (h : t.iu.Settled c) : (t.enterLost st own order).iu.Settled c := by
    cases order <;> simp [State.enterLost, h]
  unfold State.updateHealth State.healthChanged; dsimp only; repeat' split
  all_goals simp [h, lost]

@[simp] theorem deliverReport {st : Nat} {r : Report} {was : Health} {order : DeliveryOrder} :
    (s.deliverReport st r was order).iu.Settled c := by
  have read {t : State} {l : List ValveReading} (h : t.iu.Settled c) : (t.deliverReadings l).iu.Settled c :=
    h.foldl (fun _ _ h => h.deliverReading) l
  unfold State.deliverReport; dsimp only; repeat' split
  all_goals simp [h, read]

@[simp] theorem closeTransaction {tx : Transaction} {e : Ending} {order : DeliveryOrder} :
    (s.closeTransaction tx e order).iu.Settled c := by
  unfold State.closeTransaction; dsimp only; repeat' split
  all_goals simp [h, foldl_keeps (·.iu)]

@[simp] theorem endTransaction {line : Nat} {e : Ending} {order : DeliveryOrder} :
    (s.endTransaction line e order).iu.Settled c := by
  have next {t : State} {tx : Transaction} (h : t.iu.Settled c) : (t.nextTransaction line tx).iu.Settled c := by
    unfold State.nextTransaction State.advanceScan; dsimp only; repeat' split
    · exact chooseTransaction (by exact h)
    · exact h.endPass.chooseTransaction
    · exact h.chooseTransaction
    · exact h
  unfold State.endTransaction; split
  · exact next (by simp [h])
  · exact h

@[simp] theorem lineBytes {line : Nat} {bytes : List Byte} {order : DeliveryOrder} :
    (s.lineBytes line bytes order).iu.Settled c := by
  unfold State.lineBytes; repeat' split
  all_goals simp [h]

@[simp] theorem endQuiet {line : Nat} : (s.endQuiet line).iu.Settled c := by
  unfold State.endQuiet; split
  · exact h.endPass.chooseTransaction
  · exact h

@[simp] theorem endSearch : s.endSearch.iu.Settled c := by
  unfold State.endSearch State.completeSearch; repeat' split
  · simp [h]
  · rw [State.chooseJob_iu]
    exact takeResult (by exact h)
  · exact h
  · exact h

/-! #### Modes, expiries and requests -/

@[simp] theorem setModeRequest {m : Nat} : (s.setModeRequest m).1.iu.Settled c := by
  have left (m : Mode) : (s.validateAndLeave m).1.iu.Settled c := by
    unfold State.validateAndLeave State.leaveConfigure; dsimp only; split
    · exact h
    · rw [State.postMode_iu]
      refine foldl (by rwa [State.startEngine_iu]) (fun _ line h => ?_) _
      unfold State.startLine; split
      · exact chooseTransaction (by exact h)
      · exact h
  have asked : s.askConfigure.1.iu.Settled c := by
    have ended := endWaiting (s := s.withCrl { s.crl with pendingConfigure := true }) h (o := .abortedMode)
    unfold State.askConfigure; dsimp only; repeat' split
    all_goals simp [refuse, h, ended]
  have swapped (m : Mode) : (s.swapMode m).iu.Settled c := by
    have ended := endWaiting (s := s.setMode m) h (o := .abortedMode)
    unfold State.swapMode; dsimp only; split <;> simp [h, ended]
  unfold State.setModeRequest; repeat' split
  all_goals simp [refuse, h, left, asked, swapped]

@[simp] theorem takeExpiry {n : Nat} : (s.takeExpiry n).iu.Settled c := by
  have delivered {t : State} (h : t.iu.Settled c) : (t.deliverExpiry n).iu.Settled c := by
    unfold State.deliverExpiry; repeat' split
    all_goals simp [h]
  unfold State.takeExpiry; split
  · exact delivered (by exact h)
  · exact h

@[simp] theorem deliverDue : s.deliverDue.iu.Settled c := h.foldl (fun _ _ h => h.takeExpiry) _

theorem unlessHeld {f : State → State} (hf : ∀ t : State, t.iu.Settled c → (f t).iu.Settled c) :
    (s.unlessHeld f).iu.Settled c := by
  unfold State.unlessHeld; split
  · exact h
  · exact hf s h

theorem afterDue {f : State → State} (hf : ∀ t : State, t.iu.Settled c → (f t).iu.Settled c) :
    (s.afterDue f).iu.Settled c :=
  h.unlessHeld fun _ h => hf _ h.deliverDue

theorem request (r : Request) {owner : List Nat → State → Answered}
    (answers : ∀ (ns : List Nat) (t : State), t.iu.Settled c → (owner ns t).1.iu.Settled c) :
    (s.request r owner).iu.Settled c := by
  have handled {t : State} (h : t.iu.Settled c) : (t.handle r owner).iu.Settled c := by
    rcases t.handle_cases r owner with e | e | ⟨ns, e⟩ <;> rw [e]
    · exact h
    · exact h
    · exact answers ns t h
  rcases s.request_cases r owner with ⟨s₀, ⟨d, ⟨-, rfl⟩, ⟨-, rfl⟩ | ⟨rest, -, rfl⟩⟩, e⟩ | e | e <;> rw [e]
  · exact handled h.deliverDue
  · exact handled h.deliverDue
  · exact h
  · exact h.deliverDue

end

/-- A request with one field. -/
theorem oneField {c : Nat} {f : State → Nat → Answered} (hf : ∀ t n, t.iu.Settled c → (f t n).1.iu.Settled c)
    (ns : List Nat) (t : State) (h : t.iu.Settled c) : (oneField f ns t).1.iu.Settled c := by
  unfold Sys2Proof.Machine.oneField; split
  · exact hf _ _ h
  · exact h

end IsolationUnit.Settled

/-! ### Every command -/

theorem State.afterReset_context (cause : RestartCause) (rate : BitVec 2) (site : BitVec 4) (pending : List Instr)
    (c : Nat) : (State.afterReset cause rate site pending).context c = .freeWith 0 := by
  simp only [State.context, vector_getD, State.afterReset, IsolationUnit.reset, Vector.getElem?_replicate]
  split <;> rfl

/-- Every command keeps the flags of a context clear outside CONFIRMED. -/
theorem exec_settled {i : Instr} {s t : State} {c : Nat} (step : exec i s = .next t) (h : s.iu.Settled c) :
    t.iu.Settled c := by
  have reset (cause rate site) : (State.afterReset cause rate site s.pending).iu.Settled c := by
    show Context.Settled (State.context _ c)
    rw [State.afterReset_context]
    exact Context.settled_freeWith 0
  cases i
  case powerOn rate site => cases step; exact reset _ _ _
  case resetPin rate site => cases step; exact reset _ _ _
  case unknownKind kind tag body =>
    simp only [exec, execUnknownKind] at step
    split at step <;> cases step
    exact h.request _ fun _ _ h => h
  all_goals cases step
  case heldInReset => exact h
  case tick => exact h.afterDue fun _ h => h
  case incidentDeadlineExpiry n => exact h.unlessHeld fun _ h => h.takeExpiry
  case orderChannelExpiry n => exact h.unlessHeld fun _ h => h.takeExpiry
  case contextChannelExpiry n => exact h.unlessHeld fun _ h => h.takeExpiry
  case outageChannelExpiry n => exact h.unlessHeld fun _ h => h.takeExpiry
  case crlFrameReceived bytes => exact h.unlessHeld fun _ h => h
  case crlGapTimeout => exact h.unlessHeld fun _ h => h
  case stationReport line bytes order => exact h.afterDue fun _ h => h.lineBytes
  case orderAnswer line bytes order => exact h.afterDue fun _ h => h.lineBytes
  case badReply line bytes order => exact h.afterDue fun _ h => h.lineBytes
  case replyTimeout line order => exact h.afterDue fun _ h => h.endTransaction
  case quietWaitEnd line => exact h.afterDue fun _ h => h.endQuiet
  case traceComplete => exact h.afterDue fun t h => by rwa [State.endTrace_iu]
  case searchStep => exact h.afterDue fun t h => by rwa [State.stepSearch_iu]
  case searchZoneComplete => exact h.afterDue fun t h => by rwa [State.endZone_iu]
  case searchComplete => exact h.afterDue fun _ h => h.endSearch
  all_goals refine h.request _ fun ns t h => ?_
  case setParam => rwa [State.setParamFields_iu]
  case stationStats => unfold stationStatsFields; split <;> simp [refuse, h]
  case setMode => unfold setModeFields; split <;> simp [refuse, h]
  case loadSegment => unfold loadSegmentFields; split <;> simp [State.loadSegment, refuse, h]
  case loadValve => unfold loadValveFields; split <;> simp [State.loadValve, refuse, h]
  case loadPoint => unfold loadPointFields; split <;> simp [State.loadPoint, refuse, h]
  case loadStation => unfold loadStationFields; split <;> simp [State.loadStation, refuse, h]
  case loadLine => unfold loadLineFields; split <;> simp [State.loadLine, refuse, h]
  case loadTier => unfold loadTierFields; split <;> simp [State.loadTier, refuse, h]
  case modelClear => unfold State.modelClear; split <;> exact h
  case call => unfold callFields; split <;> simp [refuse, h]
  case floor => unfold floorFields; split <;> simp [refuse, h]
  case plan => unfold planFields; split <;> simp [refuse, h]
  case extend => unfold extendFields; split <;> simp [refuse, h]
  case order => unfold orderFields; split <;> simp [refuse, h]
  case releaseLocal => unfold releaseLocalFields; split <;> simp [refuse, h]
  case valveEntry => unfold valveEntryFields; split <;> simp [refuse, h]
  case inhibit => unfold inhibitFields; split <;> simp [refuse, h]
  case hold => exact h.holdRequest
  case releaseHold => rwa [State.releaseHoldRequest_iu]
  case ident | status | readOrders => exact h
  case execute | confirm | release | cancel | abort => exact .oneField (fun t n h => by simp [h]) ns t h
  case attend | madeSafe | closeIncident | relightDone | discardOutage =>
    exact .oneField (fun t n h => by simp [h]) ns t h
  case readSegment | readValve | readPoint | readStation | readContext | readIncident | readOutage =>
    exact .oneField (fun t n h => by simp [h]) ns t h
  case fetch => exact .oneField (fun _ _ h => h) ns t h
  -- RECALL, whose constructor has a command's name
  next => unfold recallFields; split <;> simp [refuse, h]

/-- A step keeps it too: the queue of commands is none of the contexts' business. -/
theorem step_settled {s t : State} {c : Nat} (h : step s = .next t) (settled : s.iu.Settled c) : t.iu.Settled c := by
  unfold step at h
  split at h
  · cases h; exact settled
  · exact exec_settled h settled

/-! ### CONFIRM (R148) -/

section
variable {s : State} {c : Nat}

theorem State.confirm_mode (h : s.inService = false) : s.confirmRequest c = refuse s .mode := by
  simp [State.confirmRequest, h]

theorem State.confirm_range (h : s.inService = true) (outside : 8 ≤ c) : s.confirmRequest c = refuse s .range := by
  simp [State.confirmRequest, h, outside]

theorem State.confirm_state (h : s.inService = true) (inside : c < 8) (other : (s.context c).state ≠ .holding) :
    s.confirmRequest c = refuse s .state := by
  simp only [State.confirmRequest, h, inside.not_ge]
  split <;> simp_all

/-- A HOLDING context has nothing to clear as it leaves its state, and no entry on the waiting list. -/
theorem State.confirm_holding (h : s.inService = true) (inside : c < 8) (holding : (s.context c).state = .holding) :
    s.confirmRequest c = ((s.setContext c { s.context c with state := .confirmed, operatorConfirmed := true }).post
      .operations (.isolationState c (s.context c).incident .holding .confirmed (s.context c).revision none none
        (some ((s.context c).unverified, true))), .ok, .empty) := by
  simp [State.confirmRequest, h, inside.not_ge, holding, State.enter, State.dropWaiting, Context.leave,
    State.postIsolation, State.setContext_context, inside]

end

/-- Settles O54: CONFIRM by the checks of R148 in their order; the flags, because every operation keeps them clear
outside CONFIRMED. -/
theorem confirmTakesAHoldingContext : Obligations.ConfirmTakesAHoldingContext := by
  unfold Obligations.ConfirmTakesAHoldingContext
  refine ⟨?confirm, fun s t c stepped confirmed left => ?flags⟩
  case confirm =>
    rintro s s₀ tag c x hc rfl takes
    have answers {t : State} {code : ResultCode} {body : ReplyBody} (hr : s₀.confirmRequest c = (t, code, body)) :
        exec (.confirm tag (joinFields [1] [c])) s = .next (t.answered 0x33#8 tag code body) :=
      exec_answers (oneField State.confirmRequest) rfl takes (by decide) rfl ⟨hc, trivial⟩ hr
    refine ⟨fun out => answers (State.confirm_mode ?_), fun mode pending => ?_⟩
    · rcases out with out | out <;> simp [State.inService, out]
    · have inService : s₀.inService = true := by simp [State.inService, mode, pending]
      exact ⟨fun outside => answers (State.confirm_range inService outside),
        fun inside other => answers (State.confirm_state inService inside other),
        fun inside holding => answers (State.confirm_holding inService inside holding)⟩
  case flags => exact step_settled stepped ((s.settled_iff c).2 fun out => absurd confirmed out) left

end Sys2Proof.Machine

/-! ## Obligation O9: prescale, reload and actual duration (R175) -/

namespace Sys2Proof.Machine

/-- A duration after the clamp, in the figures of R175. -/
theorem clampDuration_eq (d : Nat) : clampDuration d = max 1 (min d 4194240) :=
  congrArg (max 1) (Nat.min_comm ..)

theorem prescaleOf_eq_ceilDiv (d : Nat) : prescaleOf d = clampDuration d ⌈/⌉ 65535 := by
  simp [prescaleOf, Nat.ceilDiv_eq_add_pred_div]

theorem reloadOf_eq_ceilDiv (d : Nat) : reloadOf d = clampDuration d ⌈/⌉ prescaleOf d := by
  simp [reloadOf, Nat.ceilDiv_eq_add_pred_div]

/-- A ceiling is the least number that suffices: it does, and the number before it is too small. -/
theorem ceilDiv_least {a b c : Nat} (ceiling : c = a ⌈/⌉ b) (b_pos : 0 < b) (c_pos : 1 ≤ c) :
    a ≤ b * c ∧ b * (c - 1) < a := by
  have suffices_iff {k : Nat} : c ≤ k ↔ a ≤ b * k := ceiling ▸ ceilDiv_le_iff_le_mul b_pos
  refine ⟨suffices_iff.1 le_rfl, not_le.1 fun enough => ?_⟩
  have : c ≤ c - 1 := suffices_iff.2 enough
  omega

/-- The prescale is the least with which one period can count the clamped duration. -/
theorem prescaleOf_least (d : Nat) :
    clampDuration d ≤ 65535 * prescaleOf d ∧ 65535 * (prescaleOf d - 1) < clampDuration d :=
  ceilDiv_least (prescaleOf_eq_ceilDiv d) (by decide) (prescaleOf_bounds d).1

/-- The reload is the least with which the channel runs the clamped duration at its prescale. -/
theorem reloadOf_least (d : Nat) :
    clampDuration d ≤ prescaleOf d * reloadOf d ∧ prescaleOf d * (reloadOf d - 1) < clampDuration d :=
  ceilDiv_least (reloadOf_eq_ceilDiv d) (prescaleOf_bounds d).1 (reloadOf_bounds d).1

/-- One count less would fall short, so the excess is less than one count's prescale. -/
theorem actualDuration_lt (d : Nat) : actualDuration d < clampDuration d + prescaleOf d :=
  calc prescaleOf d * reloadOf d
      = prescaleOf d * (reloadOf d - 1) + prescaleOf d := by
        rw [← Nat.mul_succ, Nat.succ_eq_add_one, Nat.sub_add_cancel (reloadOf_bounds d).1]
    _ < clampDuration d + prescaleOf d := Nat.add_lt_add_right (reloadOf_least d).2 _

theorem actualDuration_eq_clampDuration_iff (d : Nat) :
    actualDuration d = clampDuration d ↔ prescaleOf d ∣ clampDuration d := by
  constructor
  · exact fun same => ⟨reloadOf d, same.symm⟩
  · rintro ⟨k, counts⟩
    have reload : reloadOf d = k := by
      rw [reloadOf_eq_ceilDiv, counts]
      exact smul_ceilDiv (prescaleOf_bounds d).1 k
    rw [actualDuration, reload, counts]

/-- Settles O9: prescale and reload are ceilings, hence the least that suffice; the excess is what the last count adds. -/
theorem durationIsNeverShorter : Obligations.DurationIsNeverShorter := by
  intro d
  rw [← clampDuration_eq]
  obtain ⟨prescale_pos, prescale_le⟩ := prescaleOf_bounds d
  obtain ⟨reload_pos, reload_le⟩ := reloadOf_bounds d
  obtain ⟨prescale_suffices, prescale_needed⟩ := prescaleOf_least d
  obtain ⟨reload_suffices, reload_needed⟩ := reloadOf_least d
  have excess : prescaleOf d * reloadOf d < clampDuration d + prescaleOf d := actualDuration_lt d
  exact ⟨prescale_pos, prescale_le, prescale_suffices, prescale_needed, reload_pos, reload_le, reload_suffices,
    reload_needed, rfl, excess, by omega, actualDuration_eq_clampDuration_iff d⟩

end Sys2Proof.Machine

/-! ## Obligation O15: the ATTN line (R188, R190) -/

namespace Sys2Proof.Machine

theorem NoticeClass.exists_iff (P : NoticeClass → Prop) :
    (∃ c, P c) ↔ P .safety ∨ P .operations ∨ P .service := by
  constructor
  · rintro ⟨c, h⟩
    cases c with
    | safety => exact .inl h
    | operations => exact .inr (.inl h)
    | service => exact .inr (.inr h)
  · rintro (h | h | h)
    · exact ⟨.safety, h⟩
    · exact ⟨.operations, h⟩
    · exact ⟨.service, h⟩

theorem ClassQueue.calls_iff (q : ClassQueue) : q.calls = true ↔ q.notices ≠ [] ∨ q.drops.isSome = true := by
  simp [ClassQueue.calls, ClassQueue.overflow]

/-- The three flags of the mask stand beside the three queues they mask (R185). -/
theorem NoticeQueues.attn_iff (q : NoticeQueues) :
    q.attn = true ↔ ∃ c, q.mask.of c = false ∧ (q.queue c).calls = true := by
  simp [NoticeClass.exists_iff, NoticeQueues.attn, ClassMask.of, NoticeQueues.queue, or_assoc]

theorem State.attn_iff (s : State) : s.attn = true ↔ s.crl.held = false ∧ s.nq.attn = true := by
  simp [State.attn]

/-- Settles O15: ATTN is the three classes' calls behind their mask flags, cut off by the reset. -/
theorem attnFollowsTheQueues : Obligations.AttnFollowsTheQueues := by
  intro s
  simp only [State.attn_iff, NoticeQueues.attn_iff, ClassQueue.calls_iff]

end Sys2Proof.Machine

/-! ## Obligation O16: IDENT (R200) -/

namespace Sys2Proof.Machine

/-- IDENT looks at no mode before it answers, and hands back the state it was given. -/
theorem State.identRequest_eq (s : State) :
    s.identRequest = (s, .ok,
      .ident 410 1 s.crl.siteStraps (linkRate s.crl.rateStraps) s.crl.cause s.crl.mode s.tb.time) := rfl

/-- Settles O16: a taken IDENT has the one empty body of its kind, and gets the answer of R200 to it. -/
theorem identReportsThePart : Obligations.IdentReportsThePart := by
  intro s s₀ tag takes
  exact exec_answers (ws := []) (ns := []) (fun _ => State.identRequest) rfl takes (by decide) rfl trivial
    s₀.identRequest_eq

end Sys2Proof.Machine
